-- ==== Sys2Proof/Word.lean ====
section
/-! DEFINITION. The words, scalars and complex values that pass through the block. A word of the command port or of the
response port is a Nat, the number its bits make (R10: bit 0 is the least significant): its width CW is a property of
the configuration (R91), so the width is checked where a word is decoded, not in a type. -/

namespace Sys2Proof

/-- A context register, a timestamp or a context operand: XLEN = 32 bits (R9, R32). -/
abbrev Word32 := BitVec 32

/-- A scalar of `NUM.S` (R8). The reference instance NUM_exact takes S to be the rationals, and the values of any
other instance are named by rationals, its `zero` by 0 (assumption 3). -/
abbrev Scalar := Rat

/-- A complex sample or mean: the in-phase and the quadrature part (R12). -/
structure IQ where
  i : Scalar
  q : Scalar
deriving DecidableEq, Repr

/-- `czero = (zero, zero)` (R12). -/
def IQ.zero : IQ := ⟨0, 0⟩

end Sys2Proof
end

