-- ==== Sys2Proof/Config.lean ====
section
/-! DEFINITION. The parameters of construction, the configuration record that is fixed once the machine exists,
and the values the spec leaves open: opaque constants with no body, of which nothing can be proved. -/

namespace Sys2Proof

/-- CNT_W: the width of the counters N and P (R9). -/
def cntW : Nat := 32

/-- The largest value of a CNT_W-bit counter, where it saturates (R27). -/
def cntMax : Nat := 2 ^ 32 - 1

/-- Which numerics record the block computes with (R8). -/
inductive NumInst where
  /-- NUM_exact: the rationals with exact arithmetic. -/
  | exact
  /-- Any other instance, numbered: its operations are the uninterpreted constants `Config.other…`. -/
  | other (k : Nat)
deriving DecidableEq, Repr

/-- The numerics record NUM: the instance and SW, the encoded width of one scalar, "a property of NUM" (R8, R9). -/
structure Numerics where
  inst : NumInst
  sw : Nat
deriving DecidableEq, Repr

/-- TERM_POLICY (R9, R232): what a SAMPLE does once STATUS is TERMINATED. -/
inductive TermPolicy where
  /-- CONTINUE: the status has no effect on SAMPLE. -/
  | cont
  /-- DRAIN: the sample is consumed and nothing else happens. -/
  | drain
deriving DecidableEq, Repr

/-- Where the five counts come from: a sample rate in Hz with the five durations in whole microseconds (R6), or
the counts directly (R127). The rate is a rational so that a rate that is no positive integer can be offered and
refused (R124). -/
inductive Timing where
  | rate (r : Rat) (t1D pwD bitD avgD dcD : Nat)
  | counts (t1 pw bit navg ndc : Nat)
deriving DecidableEq, Repr

/-- The operands of CONSTRUCT (R6 to R9). The six counts that R126 requires to be "natural numbers below 2^32" are
integers here, so that the check has something to refuse. -/
structure Params where
  timing : Timing
  threshFraction : Scalar
  minPulses : Int
  preambleBits : Int
  epcBits : Int
  rn16Bits : Int
  maxQueries : Int
  tagTarget : Int
  msqCap : Nat
  termPolicy : TermPolicy
  triggerAppendsMsq : Bool
  num : Numerics
deriving DecidableEq, Repr

/-- The parameter or count a ConfigError names (R123, R124, R126, R291). The two forward-window lengths are neither, and
their names here are the model's (assumption 9). -/
inductive ConfigName where
  | r | t1 | pw | bit | navg | ndc
  | minPulses | preambleBits | epcBits | rn16Bits | maxQueries | tagTarget
  | lEpc | lRn16 | msqCap
deriving DecidableEq, Repr

/-- `Config` (R120): the derived counts and lengths "together with params". It never changes after construction
(R129). -/
structure Config where
  timing : Timing
  /-- T1: the reader-to-tag delay in samples (R122). -/
  t1 : Nat
  /-- PW: the pulse width in samples (R122). -/
  pw : Nat
  /-- BIT: the tag bit duration in samples (R122). -/
  bit : Nat
  /-- NAVG: the capacity of WIN (R122). -/
  navg : Nat
  /-- NDC: the capacity of DCW (R122). -/
  ndc : Nat
  /-- L_EPC: the forward-window length of an EPC reply (R125). -/
  lEpc : Nat
  /-- L_RN16: the forward-window length of an RN16 reply (R125). -/
  lRn16 : Nat
  threshFraction : Scalar
  minPulses : Nat
  preambleBits : Nat
  epcBits : Nat
  rn16Bits : Nat
  maxQueries : Nat
  tagTarget : Nat
  msqCap : Nat
  termPolicy : TermPolicy
  triggerAppendsMsq : Bool
  num : Numerics
deriving DecidableEq, Repr

/-- The default parameters: R = 400 000 Hz with the durations of R6 and the constants of R7, NUM_exact with
SW = 16 (R8, R99), TERM_POLICY = CONTINUE and TRIGGER_APPENDS_MSQ = false (R9). The spec gives MSQ_CAP a lower bound
and no default: DESIGN CHOICE, the bound itself (assumption 6). -/
def Params.default : Params where
  timing := .rate 400000 240 12 25 250 120
  threshFraction := 3 / 4
  minPulses := 5
  preambleBits := 6
  epcBits := 129
  rn16Bits := 17
  maxQueries := 1000
  tagTarget := 100
  msqCap := 1370
  termPolicy := .cont
  triggerAppendsMsq := false
  num := ⟨.exact, 16⟩

/-- The configuration that the default parameters make (R120's example: T1 = 96, PW = 4, BIT = 10, NAVG = 100,
NDC = 48, L_EPC = 1370, L_RN16 = 250). -/
def Config.default : Config where
  timing := .rate 400000 240 12 25 250 120
  t1 := 96
  pw := 4
  bit := 10
  navg := 100
  ndc := 48
  lEpc := 1370
  lRn16 := 250
  threshFraction := 3 / 4
  minPulses := 5
  preambleBits := 6
  epcBits := 129
  rn16Bits := 17
  maxQueries := 1000
  tagTarget := 100
  msqCap := 1370
  termPolicy := .cont
  triggerAppendsMsq := false
  num := ⟨.exact, 16⟩

/-! ### The open values

`NUM` is "one OPEN parameter" (R8): for every instance but the reference one its functions are uninterpreted
(U2 of spec/93). Each takes the instance's number first. -/

/-- `NUM.add` of instance k (R8, open). -/
opaque Config.otherAdd : Nat → Scalar → Scalar → Scalar
/-- `NUM.sub` of instance k (R8, open). -/
opaque Config.otherSub : Nat → Scalar → Scalar → Scalar
/-- `NUM.mul` of instance k (R8, open). -/
opaque Config.otherMul : Nat → Scalar → Scalar → Scalar
/-- `NUM.divn` of instance k: division by a window capacity (R8, open). -/
opaque Config.otherDivn : Nat → Scalar → Nat → Scalar
/-- `NUM.mag` of instance k (R8, open). -/
opaque Config.otherMag : Nat → Scalar → Scalar → Scalar
/-- `NUM.lt` of instance k (R8, open). -/
opaque Config.otherLt : Nat → Scalar → Scalar → Bool
/-- `NUM.tf` of instance k: multiplication by THRESH_FRACTION, the second argument (R8, open). -/
opaque Config.otherTf : Nat → Scalar → Scalar → Scalar
/-- `NUM.dec` of instance k at width SW: the scalar that SW bits represent (R99, open). `NUM.enc` is its inverse
(`Numerics.enc`). -/
opaque Config.otherDec : Nat → Nat → Nat → Scalar
/-- The magnitude under NUM_exact of a sample whose magnitude is irrational: R8 uses `mag` of NUM_exact "only on
samples whose magnitude is rational", and its S holds no other value. A free value (assumption 4). -/
opaque Config.freeMag : Scalar → Scalar → Scalar
/-- What a 32-bit register holds for a natural number that needs more than 32 bits: the spec states no result
(assumption 5). -/
opaque Config.freeRegWord : Nat → Word32

end Sys2Proof
end

