-- ==== Sys2Proof/Machine/Numerics.lean ====
section
/-! DEFINITION. The operations of the numerics record NUM (R8) and the complex helpers over them (R12). Under
NUM_exact they are rational arithmetic; under any other instance they are the open constants of Config. -/

namespace Sys2Proof

/-- The bits of the integer square root of n below bit k, added to the root found so far. -/
def isqrtFrom (n : Nat) : Nat → Nat → Nat
  | 0, acc => acc
  | k + 1, acc =>
    if (acc + 2 ^ k) * (acc + 2 ^ k) ≤ n then isqrtFrom n k (acc + 2 ^ k) else isqrtFrom n k acc

/-- The largest natural number whose square is at most n. -/
def isqrt (n : Nat) : Nat := isqrtFrom n (n.log2 / 2 + 1) 0

/-- `mag` of NUM_exact: the exact square root of i² + q² where that is rational; elsewhere a free value, kept
non-negative because "M is never negative under NUM_exact" (R8, R142, assumption 4). -/
def exactMag (i q : Scalar) : Scalar :=
  let sq := i * i + q * q
  let n := isqrt sq.num.toNat
  let d := isqrt sq.den
  if n * n = sq.num.toNat ∧ d * d = sq.den then (n : Scalar) / (d : Scalar) else |Config.freeMag i q|

/-- `enc` of NUM_exact: the SW-bit two's-complement representation of an integer, and no representation for any
other scalar (R99). -/
def exactEnc (sw : Nat) (x : Scalar) : Option Nat :=
  if x.den = 1 ∧ -(2 : Int) ^ sw ≤ 2 * x.num ∧ 2 * x.num < 2 ^ sw then some (x.num % 2 ^ sw).toNat else none

/-- `dec` of NUM_exact: the integer whose SW-bit two's-complement representation is b (R99). -/
def exactDec (sw b : Nat) : Scalar :=
  if 2 * b < 2 ^ sw then ((b : Int) : Scalar) else (((b : Int) - 2 ^ sw : Int) : Scalar)

/-- `NUM.add` (R8). -/
def Numerics.add (N : Numerics) (a b : Scalar) : Scalar :=
  match N.inst with
  | .exact => a + b
  | .other k => Config.otherAdd k a b

/-- `NUM.sub` (R8). -/
def Numerics.sub (N : Numerics) (a b : Scalar) : Scalar :=
  match N.inst with
  | .exact => a - b
  | .other k => Config.otherSub k a b

/-- `NUM.mul` (R8). -/
def Numerics.mul (N : Numerics) (a b : Scalar) : Scalar :=
  match N.inst with
  | .exact => a * b
  | .other k => Config.otherMul k a b

/-- `NUM.divn`: division by a window capacity (R8). -/
def Numerics.divn (N : Numerics) (a : Scalar) (n : Nat) : Scalar :=
  match N.inst with
  | .exact => a / (n : Scalar)
  | .other k => Config.otherDivn k a n

/-- `NUM.mag` of a complex number (R8, R12). -/
def Numerics.mag (N : Numerics) (z : IQ) : Scalar :=
  match N.inst with
  | .exact => exactMag z.i z.q
  | .other k => Config.otherMag k z.i z.q

/-- `NUM.lt`, strict less-than (R8). -/
def Numerics.lt (N : Numerics) (a b : Scalar) : Bool :=
  match N.inst with
  | .exact => decide (a < b)
  | .other k => Config.otherLt k a b

/-- `NUM.tf`: x times THRESH_FRACTION, the second argument (R8). -/
def Numerics.tf (N : Numerics) (x fraction : Scalar) : Scalar :=
  match N.inst with
  | .exact => x * fraction
  | .other k => Config.otherTf k x fraction

/-- `NUM.dec`: the scalar that SW bits represent (R99). -/
def Numerics.dec (N : Numerics) (b : Nat) : Scalar :=
  match N.inst with
  | .exact => exactDec N.sw b
  | .other k => Config.otherDec k N.sw b

/-- The number of fewer than n that `dec` reads as x, the least where there are several; none where there is none. -/
def inverseOf (dec : Nat → Scalar) (n : Nat) (x : Scalar) : Option Nat :=
  (List.range n).find? fun b => decide (dec b = x)

/-- `NUM.enc`: the SW bits that represent a scalar, or none (R99, R101). R99 makes it and `dec` inverse to each other,
so of an instance that is open it is found from `dec` (assumption 23). -/
def Numerics.enc (N : Numerics) (x : Scalar) : Option Nat :=
  match N.inst with
  | .exact => exactEnc N.sw x
  | .other k => inverseOf (Config.otherDec k N.sw) (2 ^ N.sw) x

/-- A scalar that a SAMPLE word can carry: it has a representation (R99). -/
def Numerics.encodable (N : Numerics) (x : Scalar) : Bool := (N.enc x).isSome

/-- `cadd` (R12). -/
def Numerics.cadd (N : Numerics) (y z : IQ) : IQ := ⟨N.add y.i z.i, N.add y.q z.q⟩

/-- `csub` (R12). -/
def Numerics.csub (N : Numerics) (y z : IQ) : IQ := ⟨N.sub y.i z.i, N.sub y.q z.q⟩

/-- `cdivn`: both parts divided by the same natural number (R12, R161). -/
def Numerics.cdivn (N : Numerics) (z : IQ) (n : Nat) : IQ := ⟨N.divn z.i n, N.divn z.q n⟩

/-- `msq`, the squared magnitude (R12, R165). -/
def Numerics.msq (N : Numerics) (z : IQ) : Scalar := N.add (N.mul z.i z.i) (N.mul z.q z.q)

end Sys2Proof
end

