-- ==== Sys2Proof/Syntax.lean ====
section
/-! DEFINITION. The instructions: one constructor per row of spec/opcode_table.json. The first nine have command
words of their own (R96, R97), the two pseudo-instructions are second names of a CTXWR word (R104), the
micro-operations are performed by BEGIN and SAMPLE and have no word (R98), and CONSTRUCT, derive_count and INVOKE are
the function and sequence rows (R120, R121, R236). -/

namespace Sys2Proof

/-- The sixteen addresses of the CTX space, by the names of R71. The last three are unmapped. -/
inductive CtxReg where
  | gate | fwdLen | status | nq | ntags | tsStart | tsEnd | msqLen
  | cfgT1 | cfgPw | cfgBit | cfgNavg | cfgNdc
  | unmappedD | unmappedE | unmappedF
deriving DecidableEq, Repr

inductive Instr where
  -- commands (R96)
  /-- NOP (R235). -/
  | nop
  /-- BEGIN now (R226). -/
  | beginInv (now : Word32)
  /-- SAMPLE i, q (R228). -/
  | sample (i q : Scalar)
  /-- END (R234). -/
  | endInv
  /-- CTXWR addr, data (R263). -/
  | ctxwr (reg : CtxReg) (data : Word32)
  /-- CTXRD addr (R264). -/
  | ctxrd (reg : CtxReg)
  /-- MSQRD idx (R266). -/
  | msqrd (idx : Word32)
  /-- RESET (R320). -/
  | reset
  /-- A word with a reserved opcode 0x8..0xF (R97). -/
  | reserved (op : BitVec 4)
  -- pseudo-instructions (R104, R265)
  /-- ARM_EPC = CTXWR GATE, 1. -/
  | armEpc
  /-- ARM_RN16 = CTXWR GATE, 2. -/
  | armRn16
  -- micro-operations (R98); an operand s is the current sample
  /-- MAG (R142). -/
  | mag (s : IQ)
  /-- AVG.UPD (R141). -/
  | avgUpd
  /-- AVG.THR (R143). -/
  | avgThr
  /-- DC.UPD (R161). -/
  | dcUpd (s : IQ)
  /-- DC.SUB (R163). -/
  | dcSub (s : IQ)
  /-- MSQ.VAL (R165). -/
  | msqVal
  /-- N.INC (R176). -/
  | nInc
  /-- EDGE.FALL (R177). -/
  | edgeFall
  /-- EDGE.RISE (R178). -/
  | edgeRise
  /-- DET.FIRE (R180). -/
  | detFire (s : IQ)
  /-- GATE.ARM (R201). -/
  | gateArm
  /-- GATE.OPEN (R203). -/
  | gateOpen
  /-- GATE.FWD (R204). -/
  | gateFwd (s : IQ)
  /-- GATE.CLOSE (R206). -/
  | gateClose
  /-- TERM.CHK (R262). -/
  | termChk (now : Word32)
  -- functions and the sequence
  /-- CONSTRUCT (R120). -/
  | construct (p : Params)
  /-- derive_count (R121): a duration in microseconds and a sample rate. -/
  | deriveCount (d r : Nat)
  /-- INVOKE now, batch (R236). -/
  | invoke (now : Word32) (batch : List IQ)
deriving DecidableEq, Repr

/-- The rows that the HOST can issue as one command word (R96, R97, R104). -/
def Instr.isCommand : Instr → Bool
  | .nop => true
  | .beginInv _ => true
  | .sample _ _ => true
  | .endInv => true
  | .ctxwr _ _ => true
  | .ctxrd _ => true
  | .msqrd _ => true
  | .reset => true
  | .reserved _ => true
  | .armEpc => true
  | .armRn16 => true
  | .mag _ => false
  | .avgUpd => false
  | .avgThr => false
  | .dcUpd _ => false
  | .dcSub _ => false
  | .msqVal => false
  | .nInc => false
  | .edgeFall => false
  | .edgeRise => false
  | .detFire _ => false
  | .gateArm => false
  | .gateOpen => false
  | .gateFwd _ => false
  | .gateClose => false
  | .termChk _ => false
  | .construct _ => false
  | .deriveCount _ _ => false
  | .invoke _ _ => false

end Sys2Proof
end

