-- ==== Sys2Proof/Machine/State.lean ====
section
/-! DEFINITION. The state of the block (R20), its response to the last command (R101), the reasons a step can stop, and
the state after reset (R320, R321). -/

namespace Sys2Proof.Machine

/-- EDGE (R30): the state of the edge detector. -/
inductive Edge where
  | falling | rising
deriving DecidableEq, Repr

/-- GATE (R33): the gate state and gate-request field. `opened` is the spec's OPEN. -/
inductive Gate where
  | closed | seekEpc | seekRn16 | opened
deriving DecidableEq, Repr

/-- STATUS (R35). -/
inductive Status where
  | running | terminated
deriving DecidableEq, Repr

/-- PHASE (R42): where the block is in an invocation. The unused encoding 3 does not exist here. -/
inductive Phase where
  | idle | run | stop
deriving DecidableEq, Repr

/-- A diagnostic event (R45). -/
inductive Event where
  | evOpen
  | evClose
  | evTerminated (elapsed : Word32)
deriving DecidableEq, Repr

/-- The response codes (R102). -/
inductive Code where
  | ok | done | stopped | errIllegal | errPhase | errDenied | errRange
deriving DecidableEq, Repr

/-- What a response carries beside its code (R101). A sample payload is the case ov = 1. -/
inductive Payload where
  | empty
  /-- The forwarded sample of a SAMPLE with ov = 1. -/
  | sample (y : IQ)
  /-- The counts END returns. -/
  | counts (consumed written : Nat)
  /-- The register CTXRD returns. -/
  | data (d : Word32)
  /-- The element MSQRD returns. -/
  | value (v : Scalar)
  /-- The result of INVOKE: the counts of its END and the outputs (R236). It is no response of one command. -/
  | invoked (consumed written : Nat) (outputs : List IQ)
deriving DecidableEq, Repr

/-- The response of a command, `(code, ov, value)` (R13, R101). -/
structure Response where
  code : Code
  payload : Payload
deriving DecidableEq, Repr

/-- `ov`: the command wrote an output sample (R101). -/
def Response.ov (r : Response) : Bool :=
  match r.payload with
  | .sample _ => true
  | .empty => false
  | .counts _ _ => false
  | .data _ => false
  | .value _ => false
  | .invoked _ _ _ => false

/-- The values that pass from one micro-operation of a step to the next: M, THR, the corrected sample y, its squared
magnitude and the count of derive_count. The spec has them as values of the step and not as state (R31); here they
stand in State so that each micro-operation has a result of its own, and no command leaves one behind
(assumption 8). -/
structure StepValues where
  m : Scalar
  thr : Scalar
  y : IQ
  sq : Scalar
  count : Nat
deriving DecidableEq, Repr

/-- No value of a step in progress. -/
def StepValues.clear : StepValues := ⟨0, 0, .zero, 0, 0⟩

/-- The state of the machine. Everything down to `evt` is R20's list with the configuration; the last three fields are
the model's own. -/
structure State where
  /-- `Config`, fixed at construction (R120, R129), and with it the registers CFG_T1 to CFG_NDC (R41). -/
  cfg : Config
  /-- AVG (R21). -/
  avg : Scalar
  /-- WI (R22). -/
  wi : Nat
  /-- WIN (R23). -/
  win : List Scalar
  /-- DC (R24). -/
  dc : IQ
  /-- DI (R25). -/
  di : Nat
  /-- DCW (R26). -/
  dcw : List IQ
  /-- N (R27). -/
  n : Nat
  /-- P (R28). -/
  p : Nat
  /-- EDGE (R30). -/
  edge : Edge
  /-- GATE (R33). -/
  gate : Gate
  /-- FWD_LEN (R34). -/
  fwdLen : Word32
  /-- STATUS (R35). -/
  status : Status
  /-- NQ (R36). -/
  nq : Word32
  /-- NTAGS (R37). -/
  ntags : Word32
  /-- TS_START (R38). -/
  tsStart : Word32
  /-- TS_END (R39). -/
  tsEnd : Word32
  /-- MSQ, with MSQ_LEN its length (R40). -/
  msq : List Scalar
  /-- PHASE (R42). -/
  phase : Phase
  /-- CONSUMED (R43). -/
  consumed : Nat
  /-- WRITTEN (R44). -/
  written : Nat
  /-- OUT, oldest first (R45). -/
  out : List IQ
  /-- EVT, oldest first (R45). -/
  evt : List Event
  /-- The response of the last command (R101), the model's own field (assumption 7). -/
  rsp : Response
  /-- The words the HOST has issued and the block has not yet performed, oldest first, the model's own field
  (assumption 2). -/
  cmds : List Nat
  /-- The values of the step, the model's own field (assumption 8). -/
  work : StepValues
deriving DecidableEq, Repr

/-- Why the machine stops with a fault. -/
inductive Fault where
  /-- ConfigError(name): raised by CONSTRUCT only, when its parameters fail R123, R124 or R126. "no machine exists"
  (R291), so there is no next state. Safe: the spec stops there too. -/
  | configError (name : ConfigName)
  /-- AVG.UPD (alone or within SAMPLE) found WI outside WIN. The spec says the block cannot produce such an index
  (R68) and gives no effect; no reachable state raises it. Safe. -/
  | noWinElement
  /-- DC.UPD (alone or within SAMPLE) found DI outside DCW, as above. Safe. -/
  | noDcwElement
deriving DecidableEq, Repr

/-- Why a step has no meaning. -/
inductive Refusal where
  /-- An instruction whose meaning is not written: raised by exec's arm for it. Safe. -/
  | notModelled (mnemonic : String)
  /-- The next word is wider than the command port (R91), so no HOST can issue it: raised by step. Safe. -/
  | widerThanPort
deriving DecidableEq, Repr

/-- The state construction leaves for a configuration (R321), which is also what RESET leaves (R320). Only
EDGE = FALLING is the source's own reset value; the others are the spec's decision D15. -/
def State.constructed (c : Config) : State where
  cfg := c
  avg := 0
  wi := 0
  win := List.replicate c.navg 0
  dc := .zero
  di := 0
  dcw := List.replicate c.ndc .zero
  n := 0
  p := 0
  edge := .falling
  gate := .closed
  fwdLen := 0
  status := .running
  nq := 0
  ntags := 0
  tsStart := 0
  tsEnd := 0
  msq := []
  phase := .idle
  consumed := 0
  written := 0
  out := []
  evt := []
  rsp := ⟨.ok, .empty⟩
  cmds := []
  work := .clear

/-- The machine right after reset: constructed with the default configuration (assumption 1), no command issued. -/
def State.reset : State := State.constructed Config.default

end Sys2Proof.Machine
end

