-- ==== Sys2Proof/Machine/Flags.lean ====
section
/-! DEFINITION. The conditions that move the three state machines EDGE, GATE and PHASE and the flag STATUS, and the
saturating counter step. The block has no arithmetic condition codes (R31). -/

namespace Sys2Proof.Machine

/-- An increment of a CNT_W-bit counter, which saturates at 2^CNT_W - 1 (R27, R28). -/
def satInc (n : Nat) : Nat := if n < cntMax then n + 1 else n

/-- "magnitude drops below the adaptive threshold", strictly (R177). -/
def State.belowThr (s : State) : Bool := s.cfg.num.lt s.work.m s.work.thr

/-- "magnitude rises above the adaptive threshold", strictly (R178). -/
def State.aboveThr (s : State) : Bool := s.cfg.num.lt s.work.thr s.work.m

/-- EDGE.FALL's condition (R177). -/
def State.falls (s : State) : Bool := decide (s.edge = .rising) && s.belowThr

/-- EDGE.RISE's condition (R178). -/
def State.rises (s : State) : Bool := decide (s.edge = .falling) && s.aboveThr

/-- A valid pulse: N exceeds half the pulse width (R178). -/
def State.validPulse (s : State) : Bool := decide (s.cfg.pw / 2 < s.n)

/-- DET.FIRE's condition, the command-detected condition (R180). -/
def State.detects (s : State) : Bool :=
  decide (s.edge = .rising) && decide (s.cfg.t1 < s.n) && decide (s.cfg.minPulses < s.p)

/-- GATE.CLOSE's condition: N has reached the forward-window length (R206). -/
def State.windowDone (s : State) : Bool := decide (s.fwdLen.toNat ≤ s.n)

/-- TERM.CHK's condition (R262). -/
def State.terminates (s : State) : Bool :=
  (decide (s.cfg.maxQueries < s.nq.toNat) || decide (s.cfg.tagTarget < s.ntags.toNat)) &&
    decide (s.status ≠ .terminated)

/-- Samples are consumed and nothing else: TERM_POLICY = DRAIN in a terminated block (R232). -/
def State.drains (s : State) : Bool :=
  decide (s.cfg.termPolicy = .drain) && decide (s.status = .terminated)

end Sys2Proof.Machine
end

