-- ==== Sys2Proof/Machine/Operands.lean ====
section
/-! DEFINITION. Operand forms: the numbers the HOST writes and reads for the enumerated and the 32-bit registers
(R99, R100). -/

namespace Sys2Proof.Machine

/-- GATE as a number (R33). -/
def Gate.toNat : Gate → Nat
  | .closed => 0
  | .seekEpc => 1
  | .seekRn16 => 2
  | .opened => 3

/-- STATUS as a number (R35). -/
def Status.toNat : Status → Nat
  | .running => 0
  | .terminated => 1

/-- EDGE as a number (R30). No command reads it. -/
def Edge.toNat : Edge → Nat
  | .falling => 0
  | .rising => 1

/-- PHASE as a number (R42). No command reads it. -/
def Phase.toNat : Phase → Nat
  | .idle => 0
  | .run => 1
  | .stop => 2

/-- The response codes as numbers (R102). -/
def Code.toNat : Code → Nat
  | .ok => 0x0
  | .done => 0x1
  | .stopped => 0x2
  | .errIllegal => 0x8
  | .errPhase => 0x9
  | .errDenied => 0xA
  | .errRange => 0xB

/-- The value a CTXWR of GATE asks for: legal only if the full 32-bit data is 1 or 2 (R99, R263). -/
def gateRequest (data : Word32) : Option Gate :=
  if data = 1 then some .seekEpc else if data = 2 then some .seekRn16 else none

/-- The value a CTXWR of STATUS asks for: legal only if the full 32-bit data is 0 or 1 (R99, R263). -/
def statusRequest (data : Word32) : Option Status :=
  if data = 0 then some .running else if data = 1 then some .terminated else none

/-- A natural number in a 32-bit register. What a register shows of a larger one the spec does not state: a free
value (assumption 5). -/
def regWord (n : Nat) : Word32 := if n < 2 ^ 32 then BitVec.ofNat 32 n else Config.freeRegWord n

/-- `zext_32(CTX[addr])` (R71, R264); none at the unmapped addresses. -/
def State.ctx (s : State) : CtxReg → Option Word32
  | .gate => some (BitVec.ofNat 32 s.gate.toNat)
  | .fwdLen => some s.fwdLen
  | .status => some (BitVec.ofNat 32 s.status.toNat)
  | .nq => some s.nq
  | .ntags => some s.ntags
  | .tsStart => some s.tsStart
  | .tsEnd => some s.tsEnd
  | .msqLen => some (regWord s.msq.length)
  | .cfgT1 => some (regWord s.cfg.t1)
  | .cfgPw => some (regWord s.cfg.pw)
  | .cfgBit => some (regWord s.cfg.bit)
  | .cfgNavg => some (regWord s.cfg.navg)
  | .cfgNdc => some (regWord s.cfg.ndc)
  | .unmappedD => none
  | .unmappedE => none
  | .unmappedF => none

end Sys2Proof.Machine
end

