-- ==== Sys2Proof/Machine/Ops.lean ====
section
/-! DEFINITION. The shared operations: responses, the memory primitives of R11 and R63, the output stream, the
micro-operations of R98 as functions of the state, and the predicate that the memories keep their form. -/

namespace Sys2Proof.Machine

/-- The outcome of one step. -/
abbrev StepResult := Host.Outcome State Fault Refusal

/-! ### Responses and errors -/

/-- A response that carries nothing but its code. -/
def Response.plain (c : Code) : Response := ⟨c, .empty⟩

/-- The block answers a command (R101). -/
def State.respond (s : State) (r : Response) : State := { s with rsp := r }

/-- `raise ERR_x`: the block's only exception. It saves nothing, switches no mode and transfers no control; the
response is its only record and no other state changes (R11, R13, R290, R300). There is no return from it (R301). -/
def raise (c : Code) (s : State) : StepResult := .next (s.respond (.plain c))

/-! ### Memory primitives (R11, R60 to R66) -/

/-- `MemRead(WIN, i)`: WIN has the addresses 0..NAVG-1 and no others (R60). -/
def State.readWin (s : State) (i : Nat) : Option Scalar := if i < s.cfg.navg then s.win[i]? else none

/-- `MemWrite(WIN, i, v)` (R11). -/
def State.writeWin (s : State) (i : Nat) (v : Scalar) : State := { s with win := s.win.set i v }

/-- `MemRead(DCW, i)`: DCW has the addresses 0..NDC-1 and no others (R60). -/
def State.readDcw (s : State) (i : Nat) : Option IQ := if i < s.cfg.ndc then s.dcw[i]? else none

/-- `MemWrite(DCW, i, v)` (R11). -/
def State.writeDcw (s : State) (i : Nat) (v : IQ) : State := { s with dcw := s.dcw.set i v }

/-- `MsqClear()` (R63). -/
def State.msqClear (s : State) : State := { s with msq := [] }

/-- `MsqAppend(v)` (R63). -/
def State.msqAppend (s : State) (v : Scalar) : State := { s with msq := s.msq ++ [v] }

/-- `MsqRead(k)` (R63). -/
def State.msqRead (s : State) (k : Nat) : Option Scalar := s.msq[k]?

/-- `OutPut(y)` (R66). -/
def State.outPut (s : State) (y : IQ) : State := { s with out := s.out ++ [y], written := s.written + 1 }

/-- The memories have their form: each ring window holds exactly its capacity of elements and its index lies inside,
and MSQ is within MSQ_CAP (R23, R26, R40, R47). Equal memories are equal lists, since a window lists every element
of its address space once and in order. -/
def Memory.wf (s : State) : Bool :=
  decide (s.win.length = s.cfg.navg) && decide (s.wi < s.cfg.navg) && decide (s.dcw.length = s.cfg.ndc) &&
    decide (s.di < s.cfg.ndc) && decide (s.msq.length ≤ s.cfg.msqCap)

/-! ### Ring averager (R141 to R143) -/

/-- MAG: `M <- mag(s)` (R142). -/
def State.mag (s : State) (z : IQ) : State := { s with work := { s.work with m := s.cfg.num.mag z } }

/-- AVG.UPD with operand M (R141); none if WI is outside WIN. -/
def State.avgUpd (s : State) : Option State :=
  match s.readWin s.wi with
  | none => none
  | some old =>
    some { (s.writeWin s.wi s.work.m) with
      avg := s.cfg.num.add s.avg (s.cfg.num.divn (s.cfg.num.sub s.work.m old) s.cfg.navg)
      wi := (s.wi + 1) % s.cfg.navg }

/-- AVG.THR: `THR <- tf(AVG)` (R143). -/
def State.avgThr (s : State) : State :=
  { s with work := { s.work with thr := s.cfg.num.tf s.avg s.cfg.threshFraction } }

/-! ### DC offset estimator (R161 to R165) -/

/-- DC.UPD (R161); none if DI is outside DCW. -/
def State.dcUpd (s : State) (z : IQ) : Option State :=
  match s.readDcw s.di with
  | none => none
  | some old =>
    some { (s.writeDcw s.di z) with
      dc := s.cfg.num.cadd s.dc (s.cfg.num.cdivn (s.cfg.num.csub z old) s.cfg.ndc)
      di := (s.di + 1) % s.cfg.ndc }

/-- DC.SUB: `y <- csub(s, DC)` (R163). -/
def State.dcSub (s : State) (z : IQ) : State := { s with work := { s.work with y := s.cfg.num.csub z s.dc } }

/-- MSQ.VAL: the squared magnitude of the corrected sample y (R165). -/
def State.msqVal (s : State) : State := { s with work := { s.work with sq := s.cfg.num.msq s.work.y } }

/-! ### Edge detector (R176 to R180) -/

/-- N.INC (R176). -/
def State.nInc (s : State) : State := { s with n := satInc s.n }

/-- EDGE.FALL (R177). -/
def State.edgeFall (s : State) : State := if s.falls then { s with n := 0, edge := .falling } else s

/-- EDGE.RISE (R178). -/
def State.edgeRise (s : State) : State :=
  if s.rises then { s with p := if s.validPulse then satInc s.p else 0, n := 0, edge := .rising } else s

/-- "EDGE.FALL or EDGE.RISE": at most one of the two in a step, chosen by EDGE as it was (R175, R179, R228). -/
def State.edgeStep (s : State) : State :=
  match s.edge with
  | .rising => s.edgeFall
  | .falling => s.edgeRise

/-- GATE.OPEN: `N <- 1`, `GATE <- OPEN` (R203). -/
def State.gateOpen (s : State) : State := { s with n := 1, gate := .opened }

/-- The trigger sample's squared magnitude enters MSQ only if TRIGGER_APPENDS_MSQ (R180). -/
def State.triggerMsq (s : State) : State :=
  if s.cfg.triggerAppendsMsq then s.msqVal.msqAppend s.msqVal.work.sq else s

/-- The side effects of DET.FIRE in their order, y already computed by DC.SUB (R180). -/
def State.fire (s : State) : State :=
  let t := { ((s.msqClear).outPut s.work.y).triggerMsq with p := 0 }
  { t.gateOpen with evt := t.evt ++ [.evOpen] }

/-- DET.FIRE (R180). -/
def State.detFire (s : State) (z : IQ) : State := if s.detects then (s.dcSub z).fire else s

/-! ### Gate controller (R201 to R206) -/

/-- One arming of GATE.ARM: `FWD_LEN <- len`, `GATE <- CLOSED`, `N <- 0` (R201). -/
def State.armed (s : State) (len : Nat) : State := { s with fwdLen := regWord len, gate := .closed, n := 0 }

/-- GATE.ARM (R201). -/
def State.gateArm (s : State) : State :=
  match s.gate with
  | .seekEpc => s.armed s.cfg.lEpc
  | .seekRn16 => s.armed s.cfg.lRn16
  | .closed => s
  | .opened => s

/-- GATE.FWD (R204): forward the corrected sample, append its squared magnitude, count it. -/
def State.gateFwd (s : State) (z : IQ) : State :=
  let t := s.dcSub z
  let u := (t.outPut t.work.y).msqVal
  (u.msqAppend u.work.sq).nInc

/-- GATE.CLOSE (R206). -/
def State.gateClose (s : State) : State :=
  if s.windowDone then { s with gate := .closed, phase := .stop, evt := s.evt ++ [.evClose] } else s

/-! ### Context (R262) -/

/-- TERM.CHK (R262); the elapsed time is modulo 2^32. -/
def State.termChk (s : State) (now : Word32) : State :=
  if s.terminates then
    { s with status := .terminated, tsEnd := now, evt := s.evt ++ [.evTerminated (now - s.tsStart)] }
  else s

/-! ### The step's bookkeeping -/

/-- `CONSUMED <- CONSUMED + 1` (R228, R233). -/
def State.consume (s : State) : State := { s with consumed := s.consumed + 1 }

/-- The values of the step do not survive it (R31). -/
def State.clearWork (s : State) : State := { s with work := .clear }

/-- A SAMPLE ends with its response, and the values of the step are gone. -/
def State.finish (s : State) (r : Response) : State := (s.respond r).clearWork

end Sys2Proof.Machine
end

