-- ==== Sys2Proof/Machine/Averager.lean ====
section
/-! DEFINITION. The ring averager's micro-operations (spec/41). -/

namespace Sys2Proof.Machine

/-- MAG (R142). -/
def execMag (z : IQ) (s : State) : StepResult := .next (s.mag z)

/-- AVG.UPD (R141). -/
def execAvgUpd (s : State) : StepResult :=
  match s.avgUpd with
  | some t => .next t
  | none => .fault .noWinElement

/-- AVG.THR (R143). -/
def execAvgThr (s : State) : StepResult := .next s.avgThr

end Sys2Proof.Machine
end

