-- ==== Sys2Proof/Machine/Construct.lean ====
section
/-! DEFINITION. The construction family: derive_count, the checks of construction, CONSTRUCT, and RESET. -/

namespace Sys2Proof.Machine

/-- derive_count: the exact integer floor of d * R / 10^6 (R121). -/
def deriveCount (d r : Nat) : Nat := d * r / 1000000

/-- The rate as a natural number, if it is an integer with 1 <= R < 2^32 (R124). R124 names the error, and its place
before the counts, for R = 0, a negative R and a non-integer R; that a rate of 2^32 or more is refused with the same error at
the same place is the model's reading: DEDUCED (assumption 25). -/
def rateOf (r : Rat) : Option Nat :=
  if r.den = 1 ∧ 1 ≤ r.num ∧ r.num < 2 ^ 32 then some r.num.toNat else none

/-- The five counts: T1, PW, BIT, NAVG, NDC in this order (R122, R127). -/
structure Counts where
  t1 : Nat
  pw : Nat
  bit : Nat
  navg : Nat
  ndc : Nat
deriving DecidableEq, Repr

/-- The counts of a timing before they are checked: derived from the rate, or given directly (R120, R127). -/
def countsOf : Timing → Except ConfigName Counts
  | .rate r t1D pwD bitD avgD dcD =>
    match rateOf r with
    | none => .error .r
    | some k =>
      .ok ⟨deriveCount t1D k, deriveCount pwD k, deriveCount bitD k, deriveCount avgD k, deriveCount dcD k⟩
  | .counts t1 pw bit navg ndc => .ok ⟨t1, pw, bit, navg, ndc⟩

/-- The first entry whose test fails, in the order listed. -/
def firstFailure : List (ConfigName × Bool) → Option ConfigName
  | [] => none
  | (name, good) :: rest => if good then firstFailure rest else some name

/-- check_counts: every count is at least 1, tested in this order (R123). -/
def countChecks (c : Counts) : List (ConfigName × Bool) :=
  [(.t1, decide (1 ≤ c.t1)), (.pw, decide (1 ≤ c.pw)), (.bit, decide (1 ≤ c.bit)),
    (.navg, decide (1 ≤ c.navg)), (.ndc, decide (1 ≤ c.ndc))]

/-- A natural number below 2^32 (R126). -/
def isNat32 (x : Int) : Bool := decide (0 ≤ x) && decide (x < 2 ^ 32)

/-- `(payloadBits + preambleBits) * BIT + 2 * BIT` (R125). -/
def forwardLength (payloadBits preambleBits bit : Nat) : Nat := (payloadBits + preambleBits) * bit + 2 * bit

/-- The configuration record of parameters and counts (R120). -/
def configOf (p : Params) (c : Counts) : Config where
  timing := p.timing
  t1 := c.t1
  pw := c.pw
  bit := c.bit
  navg := c.navg
  ndc := c.ndc
  lEpc := forwardLength p.epcBits.toNat p.preambleBits.toNat c.bit
  lRn16 := forwardLength p.rn16Bits.toNat p.preambleBits.toNat c.bit
  threshFraction := p.threshFraction
  minPulses := p.minPulses.toNat
  preambleBits := p.preambleBits.toNat
  epcBits := p.epcBits.toNat
  rn16Bits := p.rn16Bits.toNat
  maxQueries := p.maxQueries.toNat
  tagTarget := p.tagTarget.toNat
  msqCap := p.msqCap
  termPolicy := p.termPolicy
  triggerAppendsMsq := p.triggerAppendsMsq
  num := p.num

/-- check_other (R126). The rule gives no order of its conditions and no names for the error: that they are tested in the
order listed, that a length that is too large is named L_EPC or L_RN16 (R291 names only counts and parameters, and a length is
neither), and that a buffer too small for the lengths is named MSQ_CAP, is the model's: DESIGN CHOICE (assumption 9). -/
def otherChecks (p : Params) (c : Config) : List (ConfigName × Bool) :=
  [(.minPulses, isNat32 p.minPulses), (.preambleBits, isNat32 p.preambleBits), (.epcBits, isNat32 p.epcBits),
    (.rn16Bits, isNat32 p.rn16Bits), (.maxQueries, isNat32 p.maxQueries), (.tagTarget, isNat32 p.tagTarget),
    (.t1, decide (c.t1 < cntMax)), (.pw, decide (c.pw < cntMax)), (.lEpc, decide (c.lEpc < cntMax)),
    (.lRn16, decide (c.lRn16 < cntMax)), (.minPulses, decide (c.minPulses < cntMax)),
    (.msqCap, decide (max (max c.lEpc c.lRn16) 2 ≤ c.msqCap))]

/-- construct: the configuration, or the name a ConfigError carries (R120). -/
def construct (p : Params) : Except ConfigName Config :=
  match countsOf p.timing with
  | .error name => .error name
  | .ok counts =>
    match firstFailure (countChecks counts) with
    | some name => .error name
    | none =>
      match firstFailure (otherChecks p (configOf p counts)) with
      | some name => .error name
      | none => .ok (configOf p counts)

/-- CONSTRUCT (R120): the new machine in the reset state, or ConfigError and no machine (R291). The words the HOST has
yet to issue are the HOST's and stay (assumption 2). -/
def execConstruct (p : Params) (s : State) : StepResult :=
  match construct p with
  | .ok c => .next { State.constructed c with cmds := s.cmds }
  | .error name => .fault (.configError name)

/-- derive_count (R121). -/
def execDeriveCount (d r : Nat) (s : State) : StepResult :=
  .next { s with work := { s.work with count := deriveCount d r } }

/-- RESET (R320): every register, memory and trace to its reset value, in any PHASE; `Config` is kept, and the answer
is OK. -/
def execReset (s : State) : StepResult := .next { State.constructed s.cfg with cmds := s.cmds }

end Sys2Proof.Machine
end

