-- ==== Sys2Proof/Machine/Context.lean ====
section
/-! DEFINITION. Context access and the termination check (spec/46): TERM.CHK, CTXWR, CTXRD, MSQRD and the two
pseudo-instructions. -/

namespace Sys2Proof.Machine

/-- TERM.CHK (R262). -/
def execTermChk (now : Word32) (s : State) : StepResult := .next (s.termChk now)

/-- The answer OK of a CTXWR that wrote (R263). -/
def ctxWritten (s : State) : StepResult := .next (s.respond (.plain .ok))

/-- CTXWR in PHASE = IDLE: the address class, then the value (R263, R299). -/
def ctxWrite (reg : CtxReg) (data : Word32) (s : State) : StepResult :=
  match reg with
  | .gate =>
    match gateRequest data with
    | some g => ctxWritten { s with gate := g }
    | none => raise .errDenied s
  | .status =>
    match statusRequest data with
    | some st => ctxWritten { s with status := st }
    | none => raise .errDenied s
  | .nq => ctxWritten { s with nq := data }
  | .ntags => ctxWritten { s with ntags := data }
  | .tsStart => ctxWritten { s with tsStart := data }
  | .fwdLen => raise .errDenied s
  | .tsEnd => raise .errDenied s
  | .msqLen => raise .errDenied s
  | .cfgT1 => raise .errDenied s
  | .cfgPw => raise .errDenied s
  | .cfgBit => raise .errDenied s
  | .cfgNavg => raise .errDenied s
  | .cfgNdc => raise .errDenied s
  | .unmappedD => raise .errRange s
  | .unmappedE => raise .errRange s
  | .unmappedF => raise .errRange s

/-- CTXWR (R263): the PHASE test comes first (R299). -/
def execCtxwr (reg : CtxReg) (data : Word32) (s : State) : StepResult :=
  match s.phase with
  | .idle => ctxWrite reg data s
  | .run => raise .errPhase s
  | .stop => raise .errPhase s

/-- CTXRD (R264), in every PHASE. -/
def execCtxrd (reg : CtxReg) (s : State) : StepResult :=
  match s.ctx reg with
  | some d => .next (s.respond ⟨.ok, .data d⟩)
  | none => raise .errRange s

/-- MSQRD (R266), in every PHASE. -/
def execMsqrd (idx : Word32) (s : State) : StepResult :=
  match s.msqRead idx.toNat with
  | some v => .next (s.respond ⟨.ok, .value v⟩)
  | none => raise .errRange s

/-- ARM_EPC = CTXWR GATE, 1 (R104, R265). -/
def execArmEpc (s : State) : StepResult := execCtxwr .gate 1 s

/-- ARM_RN16 = CTXWR GATE, 2 (R104, R265). -/
def execArmRn16 (s : State) : StepResult := execCtxwr .gate 2 s

end Sys2Proof.Machine
end

