-- ==== Sys2Proof/Machine/DcEstimator.lean ====
section
/-! DEFINITION. The DC offset estimator's micro-operations (spec/42). -/

namespace Sys2Proof.Machine

/-- DC.UPD (R161). -/
def execDcUpd (z : IQ) (s : State) : StepResult :=
  match s.dcUpd z with
  | some t => .next t
  | none => .fault .noDcwElement

/-- DC.SUB (R163). -/
def execDcSub (z : IQ) (s : State) : StepResult := .next (s.dcSub z)

/-- MSQ.VAL (R165). -/
def execMsqVal (s : State) : StepResult := .next s.msqVal

end Sys2Proof.Machine
end

