-- ==== Sys2Proof/Machine/EdgeDetector.lean ====
section
/-! DEFINITION. The edge detector's micro-operations (spec/43). -/

namespace Sys2Proof.Machine

/-- N.INC (R176). -/
def execNInc (s : State) : StepResult := .next s.nInc

/-- EDGE.FALL (R177). -/
def execEdgeFall (s : State) : StepResult := .next s.edgeFall

/-- EDGE.RISE (R178). -/
def execEdgeRise (s : State) : StepResult := .next s.edgeRise

/-- DET.FIRE (R180). -/
def execDetFire (z : IQ) (s : State) : StepResult := .next (s.detFire z)

end Sys2Proof.Machine
end

