-- ==== Sys2Proof/Machine/GateController.lean ====
section
/-! DEFINITION. The gate controller's micro-operations (spec/44). -/

namespace Sys2Proof.Machine

/-- GATE.ARM (R201). -/
def execGateArm (s : State) : StepResult := .next s.gateArm

/-- GATE.OPEN (R203). -/
def execGateOpen (s : State) : StepResult := .next s.gateOpen

/-- GATE.FWD (R204). -/
def execGateFwd (z : IQ) (s : State) : StepResult := .next (s.gateFwd z)

/-- GATE.CLOSE (R206). -/
def execGateClose (s : State) : StepResult := .next s.gateClose

end Sys2Proof.Machine
end

