-- ==== Sys2Proof/Machine/Router.lean ====
section
/-! DEFINITION. The stream router: NOP, BEGIN, SAMPLE, END and the sequence INVOKE (spec/45), and the answer to a
reserved opcode (R97). -/

namespace Sys2Proof.Machine

/-- NOP (R235). -/
def execNop (s : State) : StepResult := .next (s.respond (.plain .ok))

/-- A reserved opcode: ERR_ILLEGAL in any PHASE, no state change (R97, R292). -/
def execReserved (_op : BitVec 4) (s : State) : StepResult := raise .errIllegal s

/-- The start of an invocation: CONSUMED and WRITTEN are 0 and PHASE is RUN (R226). -/
def State.startInvocation (s : State) : State := { s with consumed := 0, written := 0, phase := .run }

/-- BEGIN (R226): TERM.CHK, then GATE.ARM (R227). -/
def execBegin (now : Word32) (s : State) : StepResult :=
  match s.phase with
  | .idle => .next (((s.termChk now).gateArm.startInvocation).respond (.plain .ok))
  | .run => raise .errPhase s
  | .stop => raise .errPhase s

/-- The end of path (a), after the edge transition: DET.FIRE, and y is returned if it held (R228). -/
def State.closedPathEnd (s : State) (z : IQ) : State :=
  if s.detects then
    let t := (s.detFire z).consume
    t.finish ⟨.ok, .sample t.work.y⟩
  else s.consume.finish (.plain .ok)

/-- Path (a), GATE not OPEN at the start of the step: DC.UPD, N.INC, EDGE.FALL or EDGE.RISE, DET.FIRE (R228, R229). -/
def State.closedPath (s : State) (z : IQ) : StepResult :=
  match s.dcUpd z with
  | none => .fault .noDcwElement
  | some t => .next (t.nInc.edgeStep.closedPathEnd z)

/-- Path (b), GATE OPEN at the start of the step: GATE.FWD, then GATE.CLOSE, and DONE if it held (R228, R229). -/
def State.openPath (s : State) (z : IQ) : State :=
  let t := (s.gateFwd z).consume
  t.gateClose.finish ⟨if t.windowDone then .done else .ok, .sample t.work.y⟩

/-- A processed SAMPLE: MAG, AVG.UPD, AVG.THR, then the path chosen by GATE as it was at the start (R228). -/
def State.process (s : State) (z : IQ) : StepResult :=
  match (s.mag z).avgUpd with
  | none => .fault .noWinElement
  | some t =>
    match s.gate with
    | .opened => .next (t.avgThr.openPath z)
    | .closed => t.avgThr.closedPath z
    | .seekEpc => t.avgThr.closedPath z
    | .seekRn16 => t.avgThr.closedPath z

/-- SAMPLE (R228): by PHASE, then drained (R232) or processed. -/
def execSample (i q : Scalar) (s : State) : StepResult :=
  match s.phase with
  | .idle => raise .errPhase s
  | .stop => .next (s.respond (.plain .stopped))
  | .run => if s.drains then .next (s.consume.respond (.plain .ok)) else s.process ⟨i, q⟩

/-- END (R234). CONSUMED and WRITTEN keep their values until the next BEGIN. -/
def execEnd (s : State) : StepResult :=
  match s.phase with
  | .idle => raise .errPhase s
  | .run => .next ({ s with phase := .idle }.respond ⟨.ok, .counts s.consumed s.written⟩)
  | .stop => .next ({ s with phase := .idle }.respond ⟨.ok, .counts s.consumed s.written⟩)

/-- The output a response carries, as a list: its sample if ov = 1 (R101, R236). -/
def Response.outputs (r : Response) : List IQ :=
  match r.payload with
  | .sample y => [y]
  | .empty => []
  | .counts _ _ => []
  | .data _ => []
  | .value _ => []
  | .invoked _ _ _ => []

/-- The sample loop of INVOKE: offer each sample in turn until one is answered DONE, and collect the outputs (R236). -/
def offerAll (outs : List IQ) (s : State) : List IQ → Host.Outcome (State × List IQ) Fault Refusal
  | [] => .next (s, outs)
  | z :: rest =>
    match execSample z.i z.q s with
    | .fault f => .fault f
    | .refused r => .refused r
    | .next t =>
      match t.rsp.code with
      | .done => .next (t, outs ++ t.rsp.outputs)
      | _ => offerAll (outs ++ t.rsp.outputs) t rest

/-- INVOKE as END leaves it, with the outputs beside END's counts (R236). -/
def finishInvoke (s : State) (outs : List IQ) : StepResult :=
  match execEnd s with
  | .next t => .next (t.respond ⟨.ok, .invoked s.consumed s.written outs⟩)
  | .fault f => .fault f
  | .refused r => .refused r

/-- INVOKE (R236): BEGIN, the sample loop, END. "BEGIN now -- must return OK": where it does not, its response stands and
nothing else follows (assumption 10). -/
def execInvoke (now : Word32) (batch : List IQ) (s : State) : StepResult :=
  match execBegin now s with
  | .fault f => .fault f
  | .refused r => .refused r
  | .next t =>
    if t.rsp.code = .ok then
      match offerAll [] t batch with
      | .next (u, outs) => finishInvoke u outs
      | .fault f => .fault f
      | .refused r => .refused r
    else .next t

end Sys2Proof.Machine
end

