-- ==== Sys2Proof/Machine/Dispatch.lean ====
section
/-! DEFINITION. The meaning of every instruction: one arm per constructor of Instr. -/

namespace Sys2Proof.Machine

def exec (i : Instr) (s : State) : Host.Outcome State Fault Refusal :=
  match i with
  | .nop => Sys2Proof.Machine.execNop s
  | .beginInv now => Sys2Proof.Machine.execBegin now s
  | .sample i1 q1 => Sys2Proof.Machine.execSample i1 q1 s
  | .endInv => Sys2Proof.Machine.execEnd s
  | .ctxwr reg data => Sys2Proof.Machine.execCtxwr reg data s
  | .ctxrd reg => Sys2Proof.Machine.execCtxrd reg s
  | .msqrd idx => Sys2Proof.Machine.execMsqrd idx s
  | .reset => Sys2Proof.Machine.execReset s
  | .reserved op => Sys2Proof.Machine.execReserved op s
  | .armEpc => Sys2Proof.Machine.execArmEpc s
  | .armRn16 => Sys2Proof.Machine.execArmRn16 s
  | .mag z => Sys2Proof.Machine.execMag z s
  | .avgUpd => Sys2Proof.Machine.execAvgUpd s
  | .avgThr => Sys2Proof.Machine.execAvgThr s
  | .dcUpd z => Sys2Proof.Machine.execDcUpd z s
  | .dcSub z => Sys2Proof.Machine.execDcSub z s
  | .msqVal => Sys2Proof.Machine.execMsqVal s
  | .nInc => Sys2Proof.Machine.execNInc s
  | .edgeFall => Sys2Proof.Machine.execEdgeFall s
  | .edgeRise => Sys2Proof.Machine.execEdgeRise s
  | .detFire z => Sys2Proof.Machine.execDetFire z s
  | .gateArm => Sys2Proof.Machine.execGateArm s
  | .gateOpen => Sys2Proof.Machine.execGateOpen s
  | .gateFwd z => Sys2Proof.Machine.execGateFwd z s
  | .gateClose => Sys2Proof.Machine.execGateClose s
  | .termChk now => Sys2Proof.Machine.execTermChk now s
  | .construct p => Sys2Proof.Machine.execConstruct p s
  | .deriveCount d r => Sys2Proof.Machine.execDeriveCount d r s
  | .invoke now batch => Sys2Proof.Machine.execInvoke now batch s

end Sys2Proof.Machine
end

