-- ==== Sys2Proof/WellFormed.lean ====
section
/-! DEFINITION. Which terms of Instr stand for something the HOST can issue. -/

namespace Sys2Proof

/-- The checks: a SAMPLE carries scalars its word can hold (R93, R99), as does every sample of an INVOKE (R236); a
reserved word has an opcode of 0x8..0xF (R97). Every other operand is bounded by its type. CONSTRUCT checks its own
parameters (R123, R124, R126), so they are no matter of form. -/
def wellFormed (N : Numerics) : Instr → Bool
  | .nop => true
  | .beginInv _ => true
  | .sample i q => N.encodable i && N.encodable q
  | .endInv => true
  | .ctxwr _ _ => true
  | .ctxrd _ => true
  | .msqrd _ => true
  | .reset => true
  | .reserved op => decide (8 ≤ op.toNat)
  | .armEpc => true
  | .armRn16 => true
  | .mag _ => true
  | .avgUpd => true
  | .avgThr => true
  | .dcUpd _ => true
  | .dcSub _ => true
  | .msqVal => true
  | .nInc => true
  | .edgeFall => true
  | .edgeRise => true
  | .detFire _ => true
  | .gateArm => true
  | .gateOpen => true
  | .gateFwd _ => true
  | .gateClose => true
  | .termChk _ => true
  | .construct _ => true
  | .deriveCount _ _ => true
  | .invoke _ batch => batch.all fun z => N.encodable z.i && N.encodable z.q

end Sys2Proof
end

