-- ==== Sys2Proof/Decode.lean ====
section
/-! DEFINITION. The command words: the decoder, total on every number, and after it the encoder, both from the
formats of R91 to R96. -/

namespace Sys2Proof

/-- CW = max(40, 4 + 2*SW), the width of every command word (R91). -/
def commandWidth (sw : Nat) : Nat := max 40 (4 + 2 * sw)

/-- Bits lo+width-1 down to lo of a word (R10). -/
def slice (w lo width : Nat) : Nat := (w >>> lo) % 2 ^ width

/-- Why a number is no command word. -/
inductive DecodeError where
  /-- It has bits at or above CW (R91). -/
  | widerThanPort
deriving DecidableEq, Repr

/-- The CTX address named by cmd[7:4] (R71, R95). -/
def CtxReg.ofAddr (a : Nat) : CtxReg :=
  match a with
  | 0x0 => .gate
  | 0x1 => .fwdLen
  | 0x2 => .status
  | 0x3 => .nq
  | 0x4 => .ntags
  | 0x5 => .tsStart
  | 0x6 => .tsEnd
  | 0x7 => .msqLen
  | 0x8 => .cfgT1
  | 0x9 => .cfgPw
  | 0xA => .cfgBit
  | 0xB => .cfgNavg
  | 0xC => .cfgNdc
  | 0xD => .unmappedD
  | 0xE => .unmappedE
  | _ => .unmappedF

/-- The command in a word of CW bits: `op = cmd[3:0]` alone chooses the format, and bits the format does not name are
ignored (R91 to R97). A word of a pseudo-instruction decodes to the CTXWR it is another name of (R104). -/
def readCommand (N : Numerics) (w : Nat) : Instr :=
  match slice w 0 4 with
  | 0x0 => .nop
  | 0x1 => .beginInv (BitVec.ofNat 32 (slice w 4 32))
  | 0x2 => .sample (N.dec (slice w 4 N.sw)) (N.dec (slice w (4 + N.sw) N.sw))
  | 0x3 => .endInv
  | 0x4 => .ctxwr (.ofAddr (slice w 4 4)) (BitVec.ofNat 32 (slice w 8 32))
  | 0x5 => .ctxrd (.ofAddr (slice w 4 4))
  | 0x6 => .msqrd (BitVec.ofNat 32 (slice w 8 32))
  | 0x7 => .reset
  | op => .reserved (BitVec.ofNat 4 op)

/-- The decoder, total on every number: a number wider than the port is no command word (R91). -/
def decode (N : Numerics) (w : Nat) : Except DecodeError Instr :=
  if 2 ^ commandWidth N.sw ≤ w then .error .widerThanPort else .ok (readCommand N w)

/-- What the decoder reads from the word of an opcode-table row, on the machine of State.reset (SW = 16, CW = 40).
The word is one unit, so its bits are numbered as the table numbers them and its length plays no part. -/
def decodeTableWord (_nbits w : Nat) : Option Instr :=
  match decode Config.default.num w with
  | .ok i => some i
  | .error _ => none

/-! ### The encoder -/

/-- The CTX address of a register (R71). -/
def CtxReg.addr : CtxReg → Nat
  | .gate => 0x0
  | .fwdLen => 0x1
  | .status => 0x2
  | .nq => 0x3
  | .ntags => 0x4
  | .tsStart => 0x5
  | .tsEnd => 0x6
  | .msqLen => 0x7
  | .cfgT1 => 0x8
  | .cfgPw => 0x9
  | .cfgBit => 0xA
  | .cfgNavg => 0xB
  | .cfgNdc => 0xC
  | .unmappedD => 0xD
  | .unmappedE => 0xE
  | .unmappedF => 0xF

/-- The format C word with this op, address and data (R95). -/
def wordC (op addr data : Nat) : Nat := op + addr * 2 ^ 4 + data * 2 ^ 8

/-- The command word of an instruction, reserved bits 0 (R91 to R97, R104); none for a row that has no encoding
(R98) or a sample whose scalars have no representation. -/
def encode (N : Numerics) : Instr → Option Nat
  | .nop => some 0x0
  | .beginInv now => some (0x1 + now.toNat * 2 ^ 4)
  | .sample i q =>
    match N.enc i, N.enc q with
    | some bi, some bq => some (0x2 + bi * 2 ^ 4 + bq * 2 ^ (4 + N.sw))
    | _, _ => none
  | .endInv => some 0x3
  | .ctxwr reg data => some (wordC 0x4 reg.addr data.toNat)
  | .ctxrd reg => some (wordC 0x5 reg.addr 0)
  | .msqrd idx => some (wordC 0x6 0 idx.toNat)
  | .reset => some 0x7
  | .reserved op => some op.toNat
  | .armEpc => some 0x104
  | .armRn16 => some 0x204
  | .mag _ => none
  | .avgUpd => none
  | .avgThr => none
  | .dcUpd _ => none
  | .dcSub _ => none
  | .msqVal => none
  | .nInc => none
  | .edgeFall => none
  | .edgeRise => none
  | .detFire _ => none
  | .gateArm => none
  | .gateOpen => none
  | .gateFwd _ => none
  | .gateClose => none
  | .termChk _ => none
  | .construct _ => none
  | .deriveCount _ _ => none
  | .invoke _ _ => none

/-- The core instruction whose word a pseudo-instruction is another name of (R104, R265); every other instruction is
its own. -/
def Instr.expand : Instr → Instr
  | .armEpc => .ctxwr .gate 1
  | .armRn16 => .ctxwr .gate 2
  | i => i

end Sys2Proof
end

