-- ==== Sys2Proof/Machine/Fetch.lean ====
section
/-! DEFINITION. Taking the HOST's next command word: the place of instruction fetch in a block that has no program
(R46, R73). -/

namespace Sys2Proof.Machine

/-- The oldest word the HOST has issued, and the state in which it no longer waits; none if no command is issued. -/
def State.nextCommand (s : State) : Option (Nat × State) :=
  match s.cmds with
  | [] => none
  | w :: rest => some (w, { s with cmds := rest })

/-- The HOST issues this word as the very next command. -/
def State.issueFirst (s : State) (w : Nat) : State := { s with cmds := w :: s.cmds }

end Sys2Proof.Machine
end

