-- ==== Sys2Proof/Machine/Step.lean ====
section
/-! DEFINITION. One step of the machine: it performs the next command the HOST has issued, atomically (R69, R73). -/

namespace Sys2Proof.Machine

/-- One step. "The block is idle whenever no command is issued; all state survives any idle time" (R307). -/
def step (s : State) : Host.Outcome State Fault Refusal :=
  match s.nextCommand with
  | none => .next s
  | some (w, t) =>
    match Sys2Proof.decode s.cfg.num w with
    | .ok i => exec i t
    | .error _ => .refused .widerThanPort

/-- s with the word w issued as the next command (assumption 2). -/
def State.withFetchWord (s : State) (_nbits w : Nat) : State := s.issueFirst w

end Sys2Proof.Machine
end

