-- ==== Sys2Proof/Machine/Port.lean ====
section
/-! DEFINITION. The response word of a response (R101). -/

namespace Sys2Proof.Machine

/-- The payload, as the number its bits make from bit 5 of the response word on (R101). None where the port has no
room for it: a scalar `NUM.enc` cannot represent, a count of 2^32 or more, and the result of INVOKE, which is no
response of one command. -/
def Payload.bits (N : Numerics) : Payload → Option Nat
  | .empty => some 0
  | .sample y =>
    match N.enc y.i, N.enc y.q with
    | some bi, some bq => some (bi + bq * 2 ^ N.sw)
    | _, _ => none
  | .counts c w => if c < 2 ^ 32 ∧ w < 2 ^ 32 then some (c + w * 2 ^ 32) else none
  | .data d => some d.toNat
  | .value v => N.enc v
  | .invoked _ _ _ => none

/-- The response word: `rsp[3:0] = code`, `rsp[4] = ov`, the payload from bit 5 (R101). -/
def Response.word (N : Numerics) (r : Response) : Option Nat :=
  match r.payload.bits N with
  | some b => some (r.code.toNat + (if r.ov then 2 ^ 4 else 0) + b * 2 ^ 5)
  | none => none

end Sys2Proof.Machine
end

