-- ==== Sys2Proof/Safety.lean ====
section
/-! DEFINITION. What a safe run keeps: the invariant of R47 with what it needs to be kept by every step, the mean
invariant of NUM_exact (R144, R164), and a step that does not fault. -/

namespace Sys2Proof.Machine

/-- What construction guarantees of `Config` (R123, R125, R126). -/
abbrev ConfigOk (c : Config) : Prop :=
  (1 ≤ c.t1 ∧ 1 ≤ c.pw ∧ 1 ≤ c.bit ∧ 1 ≤ c.navg ∧ 1 ≤ c.ndc) ∧
  (c.lEpc = (c.epcBits + c.preambleBits) * c.bit + 2 * c.bit ∧
    c.lRn16 = (c.rn16Bits + c.preambleBits) * c.bit + 2 * c.bit) ∧
  (c.t1 < cntMax ∧ c.pw < cntMax ∧ c.lEpc < cntMax ∧ c.lRn16 < cntMax ∧ c.minPulses < cntMax) ∧
  (c.preambleBits < 2 ^ 32 ∧ c.epcBits < 2 ^ 32 ∧ c.rn16Bits < 2 ^ 32 ∧ c.maxQueries < 2 ^ 32 ∧
    c.tagTarget < 2 ^ 32) ∧
  max (max c.lEpc c.lRn16) 2 ≤ c.msqCap

/-- The counters N and P fit CNT_W bits, and at most one output is written per consumed sample (R27, R28, R44). -/
abbrev CountersOk (s : State) : Prop := s.n ≤ cntMax ∧ s.p ≤ cntMax ∧ s.written ≤ s.consumed

/-- GATE and PHASE agree: no request stands during an invocation, and a stopped one has a closed gate (R47). -/
abbrev PhaseOk (s : State) : Prop :=
  (s.phase ≠ .idle → s.gate ≠ .seekEpc ∧ s.gate ≠ .seekRn16) ∧ (s.phase = .stop → s.gate = .closed)

/-- FWD_LEN is 0 or an armed length, and while the gate is OPEN the window is not complete and MSQ holds no more
elements than it has samples (R63, R207). -/
abbrev WindowOk (s : State) : Prop :=
  (s.fwdLen.toNat = 0 ∨ s.fwdLen.toNat = s.cfg.lEpc ∨ s.fwdLen.toNat = s.cfg.lRn16) ∧
  (s.gate = .opened → 1 ≤ s.n ∧ s.n < max s.fwdLen.toNat 2 ∧ s.msq.length ≤ s.n)

/-- The invariant of every reachable state (R47), strengthened so that every step keeps it. -/
abbrev Inv (s : State) : Prop :=
  ConfigOk s.cfg ∧ Memory.wf s = true ∧ CountersOk s ∧ PhaseOk s ∧ WindowOk s ∧ s.work = .clear

/-- Under NUM_exact the running means are the arithmetic means of the windows (R144, R164). -/
abbrev MeansOk (s : State) : Prop :=
  s.cfg.num.inst = .exact →
    s.avg = s.win.sum / (s.cfg.navg : Scalar) ∧
    s.dc.i = (s.dcw.map IQ.i).sum / (s.cfg.ndc : Scalar) ∧
    s.dc.q = (s.dcw.map IQ.q).sum / (s.cfg.ndc : Scalar)

/-- The step ends in a next state: "there are no recoverable error conditions" in steady state (R297). -/
abbrev StepsOn (s : State) : Prop := ∃ t, step s = .next t

/-- The instructions one after another, stopping at the first that answers no next state. -/
def runInstrs : List Instr → State → StepResult
  | [], s => .next s
  | i :: rest, s =>
    match exec i s with
    | .next t => runInstrs rest t
    | .fault f => .fault f
    | .refused r => .refused r

/-- The SAMPLE commands that offer these samples in order. -/
def samplesOf (zs : List IQ) : List Instr := zs.map fun z => .sample z.i z.q

/-- Offered one after another from s, no sample's magnitude is below the threshold of its own step, the one computed
from AVG as that step leaves it (R143, R177). -/
def NeverBelow : State → List IQ → Prop
  | _, [] => True
  | s, z :: rest =>
    ∀ t, exec (.sample z.i z.q) s = .next t →
      s.cfg.num.lt (s.cfg.num.mag z) (s.cfg.num.tf t.avg s.cfg.threshFraction) = false ∧ NeverBelow t rest

/-- Offered one after another from s, every sample's magnitude is below the threshold of its own step and not above
it (R177, R182). -/
def AlwaysBelow : State → List IQ → Prop
  | _, [] => True
  | s, z :: rest =>
    ∀ t, exec (.sample z.i z.q) s = .next t →
      s.cfg.num.lt (s.cfg.num.mag z) (s.cfg.num.tf t.avg s.cfg.threshFraction) = true ∧
        s.cfg.num.lt (s.cfg.num.tf t.avg s.cfg.threshFraction) (s.cfg.num.mag z) = false ∧ AlwaysBelow t rest

/-- The block processes the samples it is offered: PHASE is RUN and they are not drained (R228, R232). -/
abbrev Processing (s : State) : Prop :=
  s.phase = .run ∧ (s.cfg.termPolicy = .drain → s.status ≠ .terminated)

/-- The memories hold the elements at their indices: what AVG.UPD and DC.UPD read (R61, R62). -/
abbrev RingsReadable (s : State) (oldM : Scalar) (oldS : IQ) : Prop :=
  s.wi < s.cfg.navg ∧ s.win[s.wi]? = some oldM ∧ s.di < s.cfg.ndc ∧ s.dcw[s.di]? = some oldS

/-- The five counts that a timing gives: the integer floors of duration times rate over 10^6 for a legal rate
(R121, R124), or the counts named directly (R127). -/
def TimingGives (timing : Timing) (t1 pw bit navg ndc : Nat) : Prop :=
  timing = .counts t1 pw bit navg ndc ∨
  ∃ r a b c d e : Nat, 1 ≤ r ∧ r < 2 ^ 32 ∧ timing = .rate (r : Rat) a b c d e ∧
    t1 = a * r / 1000000 ∧ pw = b * r / 1000000 ∧ bit = c * r / 1000000 ∧ navg = d * r / 1000000 ∧
    ndc = e * r / 1000000

/-- The conditions of R126 on the parameters and the lengths of R125. -/
def OtherParamsOk (p : Params) (t1 pw lEpc lRn16 : Nat) : Prop :=
  (0 ≤ p.minPulses ∧ 0 ≤ p.preambleBits ∧ 0 ≤ p.epcBits ∧ 0 ≤ p.rn16Bits ∧ 0 ≤ p.maxQueries ∧ 0 ≤ p.tagTarget) ∧
  (p.minPulses < 2 ^ 32 ∧ p.preambleBits < 2 ^ 32 ∧ p.epcBits < 2 ^ 32 ∧ p.rn16Bits < 2 ^ 32 ∧
    p.maxQueries < 2 ^ 32 ∧ p.tagTarget < 2 ^ 32) ∧
  (t1 < 2 ^ 32 - 1 ∧ pw < 2 ^ 32 - 1 ∧ lEpc < 2 ^ 32 - 1 ∧ lRn16 < 2 ^ 32 - 1 ∧ p.minPulses < 2 ^ 32 - 1) ∧
  (lEpc ≤ p.msqCap ∧ lRn16 ≤ p.msqCap ∧ 2 ≤ p.msqCap)

end Sys2Proof.Machine
end

