-- ==== Sys2Proof/Certificates/Slice0/Obligations.lean ====
section
/-! DEFINITION. The statements for the provers, from the numbered rules of spec/. A conclusion of the form
`exec i s = .next { s with … }` says what the instruction writes and, by every field it does not name, what it leaves
unchanged: every register, memory, trace and the configuration. -/

open Sys2Proof Sys2Proof.Machine

/-! ### Command words -/

/-- R91 to R97, R99, R104: every well-formed command has a word of CW bits, and the decoder reads the command back from
it (a pseudo-instruction as the CTXWR it is another name of). -/
def Obligations.CommandsDecodeFromTheirWords : Prop :=
  ∀ (N : Numerics) (i : Instr), i.isCommand = true → wellFormed N i = true →
    ∃ w, encode N i = some w ∧ w < 2 ^ commandWidth N.sw ∧ decode N w = .ok i.expand

/-- R91, R96, R97: every word of CW bits decodes to a command, to a reserved one exactly when its op is 0x8..0xF, and
never to a pseudo-instruction (assumption 17). That a wider number is rejected is the model's reading (assumption 14). -/
def Obligations.EveryPortWordDecodes : Prop :=
  ∀ (N : Numerics) (w : Nat),
    (w < 2 ^ commandWidth N.sw → ∃ i, decode N w = .ok i ∧ i.isCommand = true ∧ i.expand = i ∧
      (8 ≤ w % 16 ↔ ∃ op : BitVec 4, i = .reserved op)) ∧
    (2 ^ commandWidth N.sw ≤ w → decode N w = .error .widerThanPort)

/-- R91: the decoder ignores the bits its format does not name. Two words of CW bits with the same op and the same
named fields decode to the same instruction. -/
def Obligations.ReservedBitsAreIgnored : Prop :=
  ∀ (N : Numerics) (v w : Nat), v < 2 ^ commandWidth N.sw → w < 2 ^ commandWidth N.sw → v % 16 = w % 16 →
    (v % 16 = 1 → v / 2 ^ 4 % 2 ^ 32 = w / 2 ^ 4 % 2 ^ 32) →
    (v % 16 = 2 → v / 2 ^ 4 % 2 ^ (2 * N.sw) = w / 2 ^ 4 % 2 ^ (2 * N.sw)) →
    (v % 16 = 4 → v / 2 ^ 4 % 2 ^ 36 = w / 2 ^ 4 % 2 ^ 36) →
    (v % 16 = 5 → v / 2 ^ 4 % 2 ^ 4 = w / 2 ^ 4 % 2 ^ 4) →
    (v % 16 = 6 → v / 2 ^ 8 % 2 ^ 32 = w / 2 ^ 8 % 2 ^ 32) →
    decode N v = decode N w

/-- R105: the worked encodings of SW = 16, each command with its word, in both directions. -/
def Obligations.WorkedEncodingsDecode : Prop :=
  ∀ x ∈ [(Instr.nop, 0x0000000000), (.beginInv 0, 0x0000000001), (.beginInv 1000, 0x0000003E81),
      (.sample 8 0, 0x0000000082), (.sample 3 4, 0x0000400032), (.sample (-4) 0, 0x00000FFFC2),
      (.sample 0 (-4), 0x0FFFC00002), (.endInv, 0x0000000003), (.ctxwr .nq 1001, 0x000003E934),
      (.ctxrd .status, 0x0000000025), (.msqrd 3, 0x0000000306), (.reset, 0x0000000007)],
    encode ⟨.exact, 16⟩ x.1 = some x.2 ∧ decode ⟨.exact, 16⟩ x.2 = .ok x.1

/-- R101, R102: the response word of each command class, over SW and the numerics: code in bits 3..0, ov in bit 4, the
payload from bit 5; and the number of each code. -/
def Obligations.ResponseWordLayout : Prop :=
  (Code.ok.toNat = 0x0 ∧ Code.done.toNat = 0x1 ∧ Code.stopped.toNat = 0x2 ∧ Code.errIllegal.toNat = 0x8 ∧
    Code.errPhase.toNat = 0x9 ∧ Code.errDenied.toNat = 0xA ∧ Code.errRange.toNat = 0xB) ∧
  ∀ (N : Numerics) (c : Code) (y : IQ) (a b : Nat) (d : Word32) (v : Scalar),
    (Response.mk c .empty).word N = some c.toNat ∧
    (Response.mk c (.data d)).word N = some (c.toNat + d.toNat * 2 ^ 5) ∧
    (a < 2 ^ 32 → b < 2 ^ 32 → (Response.mk c (.counts a b)).word N = some (c.toNat + a * 2 ^ 5 + b * 2 ^ 37)) ∧
    (∀ e, N.enc v = some e → (Response.mk c (.value v)).word N = some (c.toNat + e * 2 ^ 5)) ∧
    (∀ e f, N.enc y.i = some e → N.enc y.q = some f →
      (Response.mk c (.sample y)).word N = some (c.toNat + 2 ^ 4 + e * 2 ^ 5 + f * 2 ^ (5 + N.sw)))

/-! ### The step -/

/-- R69, R73: when the HOST's oldest word decodes to an instruction, the step is that instruction's meaning, in the
state in which the word no longer waits. R307: with no command issued a step changes nothing. -/
def Obligations.StepPerformsTheDecodedCommand : Prop :=
  (∀ (s : State) (w : Nat) (rest : List Nat) (i : Instr), s.cmds = w :: rest →
    decode s.cfg.num w = .ok i → step s = exec i { s with cmds := rest }) ∧
  (∀ s : State, s.cmds = [] → step s = .next s)

/-- R292: a word whose op is 0x8..0xF is read as a reserved command, which is answered ERR_ILLEGAL, code 0x8, in any
PHASE, with no state change. -/
def Obligations.ReservedOpcodeAnswersErrIllegal : Prop :=
  Code.errIllegal.toNat = 0x8 ∧
  (∀ (N : Numerics) (w : Nat), w < 2 ^ commandWidth N.sw → 8 ≤ w % 16 →
    decode N w = .ok (.reserved (BitVec.ofNat 4 (w % 16)))) ∧
  (∀ (op : BitVec 4) (s : State), exec (.reserved op) s = .next { s with rsp := ⟨.errIllegal, .empty⟩ })

/-- R235: NOP answers OK and changes nothing in any PHASE. -/
def Obligations.NopAnswersOkAndChangesNothing : Prop :=
  ∀ s : State, exec .nop s = .next { s with rsp := ⟨.ok, .empty⟩ }

/-! ### Construction and reset -/

/-- R320: RESET sets every register, memory and trace to the value listed there, keeps `Config`, and answers OK, in every
PHASE. (What it does to the two fields of the model's own, the waiting words and the step's values, is no part of the
rule and is not said here.) -/
def Obligations.ResetRestoresEveryRegister : Prop :=
  ∀ s : State, ∃ t, exec .reset s = .next t ∧ t =
    { cfg := s.cfg, avg := 0, wi := 0, win := List.replicate s.cfg.navg 0, dc := ⟨0, 0⟩, di := 0,
      dcw := List.replicate s.cfg.ndc ⟨0, 0⟩, n := 0, p := 0, edge := .falling, gate := .closed, fwdLen := 0,
      status := .running, nq := 0, ntags := 0, tsStart := 0, tsEnd := 0, msq := [], phase := .idle, consumed := 0,
      written := 0, out := [], evt := [], rsp := ⟨.ok, .empty⟩, cmds := t.cmds, work := t.work }

/-- R321: the state after construct and the state after RESET under the same configuration are equal, whatever came
before the RESET. The words that the HOST has issued wait on through both (the model's choice: assumption 2). -/
def Obligations.ConstructionEqualsReset : Prop :=
  ∀ (p : Params) (s t u : State), exec (.construct p) s = .next t → u.cfg = t.cfg → u.cmds = s.cmds →
    exec .reset u = .next t

/-- R120, R121, R122, R125, R127: with counts of at least 1 and the conditions of R126, CONSTRUCT makes the machine of
these counts and of the two forward-window lengths, in the reset state. -/
def Obligations.ConstructMakesTheMachine : Prop :=
  ∀ (p : Params) (s : State) (t1 pw bit navg ndc lEpc lRn16 : Nat), TimingGives p.timing t1 pw bit navg ndc →
    1 ≤ t1 → 1 ≤ pw → 1 ≤ bit → 1 ≤ navg → 1 ≤ ndc →
    lEpc = (p.epcBits.toNat + p.preambleBits.toNat) * bit + 2 * bit →
    lRn16 = (p.rn16Bits.toNat + p.preambleBits.toNat) * bit + 2 * bit →
    OtherParamsOk p t1 pw lEpc lRn16 →
    ∃ t, exec (.construct p) s = .next t ∧ t = { State.constructed t.cfg with cmds := t.cmds } ∧
      t.cfg = { timing := p.timing, t1 := t1, pw := pw, bit := bit, navg := navg, ndc := ndc, lEpc := lEpc,
                lRn16 := lRn16, threshFraction := p.threshFraction, minPulses := p.minPulses.toNat,
                preambleBits := p.preambleBits.toNat, epcBits := p.epcBits.toNat, rn16Bits := p.rn16Bits.toNat,
                maxQueries := p.maxQueries.toNat, tagTarget := p.tagTarget.toNat, msqCap := p.msqCap,
                termPolicy := p.termPolicy, triggerAppendsMsq := p.triggerAppendsMsq, num := p.num }

/-- R123: the first count below 1, in the order T1, PW, BIT, NAVG, NDC, is the name of the ConfigError. -/
def Obligations.FirstZeroCountIsTheConfigError : Prop :=
  ∀ (p : Params) (s : State) (t1 pw bit navg ndc : Nat), TimingGives p.timing t1 pw bit navg ndc →
    (t1 < 1 → exec (.construct p) s = .fault (.configError .t1)) ∧
    (1 ≤ t1 → pw < 1 → exec (.construct p) s = .fault (.configError .pw)) ∧
    (1 ≤ t1 → 1 ≤ pw → bit < 1 → exec (.construct p) s = .fault (.configError .bit)) ∧
    (1 ≤ t1 → 1 ≤ pw → 1 ≤ bit → navg < 1 → exec (.construct p) s = .fault (.configError .navg)) ∧
    (1 ≤ t1 → 1 ≤ pw → 1 ≤ bit → 1 ≤ navg → ndc < 1 → exec (.construct p) s = .fault (.configError .ndc))

/-- R124, R120, R291: a rate that is no integer, is below 1, or is 2^32 or more is refused with ConfigError(R), whatever
the durations and the other parameters are. That this error, before the counts, is also that of a rate of 2^32 or more is the
model's reading (assumption 25). -/
def Obligations.IllegalRateIsRefused : Prop :=
  ∀ (p : Params) (s : State) (r : Rat) (a b c d e : Nat), p.timing = .rate r a b c d e →
    (∀ k : Nat, 1 ≤ k → k < 2 ^ 32 → r ≠ (k : Rat)) → exec (.construct p) s = .fault (.configError .r)

/-- R126: with counts of at least 1, construction succeeds exactly when the conditions of R126 hold, and is refused with
a ConfigError otherwise. -/
def Obligations.OtherParametersDecideConstruction : Prop :=
  ∀ (p : Params) (s : State) (t1 pw bit navg ndc : Nat), TimingGives p.timing t1 pw bit navg ndc →
    1 ≤ t1 → 1 ≤ pw → 1 ≤ bit → 1 ≤ navg → 1 ≤ ndc →
    ((∃ t, exec (.construct p) s = .next t) ↔
      OtherParamsOk p t1 pw ((p.epcBits.toNat + p.preambleBits.toNat) * bit + 2 * bit)
        ((p.rn16Bits.toNat + p.preambleBits.toNat) * bit + 2 * bit)) ∧
    ((∃ t, exec (.construct p) s = .next t) ∨ ∃ name, exec (.construct p) s = .fault (.configError name))

/-- R121: derive_count is the exact integer floor of d * R / 10^6, with no overflow of the product; its result is a value
of the step (assumption 8). -/
def Obligations.DeriveCountIsTheExactFloor : Prop :=
  ∀ (d r : Nat) (s : State), ∃ c, exec (.deriveCount d r) s = .next { s with work := { s.work with count := c } } ∧
    c * 1000000 ≤ d * r ∧ d * r < (c + 1) * 1000000

/-- R122, R125: the rate of 400 000 Hz with the default durations gives T1 = 96, PW = 4, BIT = 10, NAVG = 100, NDC = 48,
and with the default bit counts L_EPC = 1370 and L_RN16 = 250. -/
def Obligations.DefaultRateGivesTheSourceCounts : Prop :=
  ∀ s : State, ∃ t, exec (.construct Params.default) s = .next t ∧ t.cfg.t1 = 96 ∧ t.cfg.pw = 4 ∧ t.cfg.bit = 10 ∧
    t.cfg.navg = 100 ∧ t.cfg.ndc = 48 ∧ t.cfg.lEpc = 1370 ∧ t.cfg.lRn16 = 250

/-! ### Ring averager -/

/-- R142: MAG writes M and nothing else. Under NUM_exact M is not negative and is the square root of I^2 + Q^2 wherever
that is rational; under another instance it is that instance's magnitude. -/
def Obligations.MagIsTheMagnitude : Prop :=
  ∀ (z : IQ) (s : State), ∃ m, exec (.mag z) s = .next { s with work := { s.work with m := m } } ∧
    (s.cfg.num.inst = .exact →
      0 ≤ m ∧ ∀ r : Rat, 0 ≤ r → z.i * z.i + z.q * z.q = r * r → m = r) ∧
    (∀ k, s.cfg.num.inst = .other k → m = Config.otherMag k z.i z.q)

/-- R141: AVG.UPD, with operand M, in its order of operations. -/
def Obligations.AvgUpdReplacesTheOldestMagnitude : Prop :=
  ∀ (s : State) (old : Scalar), s.wi < s.cfg.navg → s.win[s.wi]? = some old →
    exec .avgUpd s = .next { s with
      avg := s.cfg.num.add s.avg (s.cfg.num.divn (s.cfg.num.sub s.work.m old) s.cfg.navg)
      win := s.win.set s.wi s.work.m
      wi := (s.wi + 1) % s.cfg.navg }

/-- R143: AVG.THR writes THR = tf(AVG) and nothing else; under NUM_exact that is AVG * THRESH_FRACTION. -/
def Obligations.ThresholdIsAFractionOfTheMean : Prop :=
  ∀ s : State,
    exec .avgThr s = .next { s with work := { s.work with thr := s.cfg.num.tf s.avg s.cfg.threshFraction } } ∧
    (s.cfg.num.inst = .exact → s.cfg.num.tf s.avg s.cfg.threshFraction = s.avg * s.cfg.threshFraction)

/-- R144, R164: under NUM_exact every step keeps AVG the arithmetic mean of WIN and DC that of DCW. -/
def Obligations.StepKeepsTheRunningMeans : Prop :=
  ∀ s t : State, Inv s → MeansOk s → step s = .next t → MeansOk t

/-- R145: under NUM_exact, after at least NAVG consecutive processed samples of magnitude A, whatever the magnitudes
before, AVG is A. The samples are processed as long as no window completes among them. -/
def Obligations.ConstantMagnitudeConverges : Prop :=
  ∀ (s : State) (zs : List IQ) (A : Scalar), Inv s → MeansOk s → s.cfg.num.inst = .exact → Processing s →
    (∀ z ∈ zs, s.cfg.num.mag z = A) → s.cfg.navg ≤ zs.length →
    ∃ t, runInstrs (samplesOf zs) s = .next t ∧ (t.phase = .run → t.avg = A)

/-! ### DC offset estimator -/

/-- R161: DC.UPD of the raw sample, componentwise and in its order of operations. -/
def Obligations.DcUpdReplacesTheOldestSample : Prop :=
  ∀ (z old : IQ) (s : State), s.di < s.cfg.ndc → s.dcw[s.di]? = some old →
    exec (.dcUpd z) s = .next { s with
      dc := ⟨s.cfg.num.add s.dc.i (s.cfg.num.divn (s.cfg.num.sub z.i old.i) s.cfg.ndc),
             s.cfg.num.add s.dc.q (s.cfg.num.divn (s.cfg.num.sub z.q old.q) s.cfg.ndc)⟩
      dcw := s.dcw.set s.di z
      di := (s.di + 1) % s.cfg.ndc }

/-- R163: DC.SUB writes y = s - DC and nothing else; R165: MSQ.VAL writes the squared magnitude of that corrected y. -/
def Obligations.CorrectedSampleAndItsSquare : Prop :=
  (∀ (z : IQ) (s : State), exec (.dcSub z) s = .next { s with
      work := { s.work with y := ⟨s.cfg.num.sub z.i s.dc.i, s.cfg.num.sub z.q s.dc.q⟩ } }) ∧
  (∀ s : State, exec .msqVal s = .next { s with work := { s.work with
      sq := s.cfg.num.add (s.cfg.num.mul s.work.y.i s.work.y.i) (s.cfg.num.mul s.work.y.q s.work.y.q) } })

/-- R164: under NUM_exact, after NDC consecutive DC.UPD with the samples D + v, DC is D plus the mean of the v. -/
def Obligations.DcEstimateConverges : Prop :=
  ∀ (s : State) (D : IQ) (vs : List IQ), Memory.wf s = true → MeansOk s → s.cfg.num.inst = .exact →
    vs.length = s.cfg.ndc →
    ∃ t, runInstrs (vs.map fun v => .dcUpd ⟨D.i + v.i, D.q + v.q⟩) s = .next t ∧
      t.dc.i = D.i + (vs.map IQ.i).sum / (s.cfg.ndc : Scalar) ∧
      t.dc.q = D.q + (vs.map IQ.q).sum / (s.cfg.ndc : Scalar)

/-- R68: an index outside its ring is no index of the space. AVG.UPD and DC.UPD stop there with a fault of their own
(the model's choice for states no run reaches: assumption 11). -/
def Obligations.IndexOutsideARingFaults : Prop :=
  (∀ s : State, s.cfg.navg ≤ s.wi ∨ s.win.length ≤ s.wi → exec .avgUpd s = .fault .noWinElement) ∧
  (∀ (z : IQ) (s : State), s.cfg.ndc ≤ s.di ∨ s.dcw.length ≤ s.di → exec (.dcUpd z) s = .fault .noDcwElement)

/-! ### Edge detector -/

/-- R176, R27: N.INC adds 1 to N, saturating at 2^32 - 1, and changes nothing else. -/
def Obligations.NIncSaturates : Prop :=
  ∀ s : State, (s.n < 2 ^ 32 - 1 → exec .nInc s = .next { s with n := s.n + 1 }) ∧
    (s.n = 2 ^ 32 - 1 → exec .nInc s = .next s)

/-- R177: EDGE.FALL. -/
def Obligations.EdgeFallResetsTheCounter : Prop :=
  ∀ s : State,
    (s.edge = .rising → s.cfg.num.lt s.work.m s.work.thr = true →
      exec .edgeFall s = .next { s with n := 0, edge := .falling }) ∧
    (s.edge = .falling ∨ s.cfg.num.lt s.work.m s.work.thr = false → exec .edgeFall s = .next s)

/-- R178: EDGE.RISE; P counts a valid pulse (saturating, R28) and is cleared by a spurious one. -/
def Obligations.EdgeRiseQualifiesThePulse : Prop :=
  ∀ s : State,
    (s.edge = .falling → s.cfg.num.lt s.work.thr s.work.m = true → s.cfg.pw / 2 < s.n → s.p < 2 ^ 32 - 1 →
      exec .edgeRise s = .next { s with p := s.p + 1, n := 0, edge := .rising }) ∧
    (s.edge = .falling → s.cfg.num.lt s.work.thr s.work.m = true → s.cfg.pw / 2 < s.n → s.p = 2 ^ 32 - 1 →
      exec .edgeRise s = .next { s with n := 0, edge := .rising }) ∧
    (s.edge = .falling → s.cfg.num.lt s.work.thr s.work.m = true → s.n ≤ s.cfg.pw / 2 →
      exec .edgeRise s = .next { s with p := 0, n := 0, edge := .rising }) ∧
    (s.edge = .rising ∨ s.cfg.num.lt s.work.thr s.work.m = false → exec .edgeRise s = .next s)

/-- R180, with R163 and R165: DET.FIRE, when the command-detected condition holds and when it does not. The corrected
sample y is a value of the step, which the model holds in its own field (assumption 8). -/
def Obligations.DetFireOpensTheGate : Prop :=
  ∀ (z : IQ) (s : State),
    (s.edge = .rising → s.cfg.t1 < s.n → s.cfg.minPulses < s.p →
      ∃ t, exec (.detFire z) s = .next t ∧
        ∃ y, y = IQ.mk (s.cfg.num.sub z.i s.dc.i) (s.cfg.num.sub z.q s.dc.q) ∧
        t = { s with
          msq := if s.cfg.triggerAppendsMsq = true then
            [s.cfg.num.add (s.cfg.num.mul y.i y.i) (s.cfg.num.mul y.q y.q)] else []
          out := s.out ++ [y], written := s.written + 1, p := 0, n := 1, gate := .opened, evt := s.evt ++ [.evOpen]
          work := t.work } ∧ t.work.y = y) ∧
    (s.edge = .falling ∨ s.n ≤ s.cfg.t1 ∨ s.p ≤ s.cfg.minPulses → exec (.detFire z) s = .next s)

/-- R181: from the sample of the last EDGE.RISE on (N = 0), with P above MIN_PULSES and no later sample below the
threshold, the first T1 samples detect nothing and sample T1 + 1 fires. -/
def Obligations.DetectionFiresAtSampleT1PlusOne : Prop :=
  ∀ (s : State) (zs : List IQ) (z : IQ), Inv s → Processing s → s.gate = .closed → s.edge = .rising → s.n = 0 →
    s.cfg.minPulses < s.p → zs.length = s.cfg.t1 → NeverBelow s (zs ++ [z]) →
    ∃ u t, runInstrs (samplesOf zs) s = .next u ∧ u.gate = .closed ∧ u.n = s.cfg.t1 ∧ u.out = s.out ∧
      exec (.sample z.i z.q) u = .next t ∧ t.gate = .opened ∧ t.n = 1 ∧ t.p = 0 ∧
      t.rsp = ⟨.ok, .sample (s.cfg.num.csub z t.dc)⟩

/-- R182: after q samples below the threshold, the first of them at EDGE = RISING, a sample above it counts one pulse if
q exceeds PW div 2 and clears the counter otherwise. -/
def Obligations.LowRunOfQSamplesQualifiesThePulse : Prop :=
  ∀ (s u : State) (zs : List IQ) (z : IQ) (t : State), Inv s → Processing s → s.gate = .closed → s.edge = .rising →
    1 ≤ zs.length → zs.length < 2 ^ 32 - 1 → AlwaysBelow s zs → runInstrs (samplesOf zs) s = .next u →
    exec (.sample z.i z.q) u = .next t →
    s.cfg.num.lt (s.cfg.num.tf t.avg s.cfg.threshFraction) (s.cfg.num.mag z) = true →
    t.edge = .rising ∧ t.n = 0 ∧ t.gate = .closed ∧
      (s.cfg.pw / 2 < zs.length → s.p < 2 ^ 32 - 1 → t.p = s.p + 1) ∧ (zs.length ≤ s.cfg.pw / 2 → t.p = 0)

/-! ### Gate controller -/

/-- R201: GATE.ARM loads the length of the request, closes the gate and clears N; it does nothing otherwise. -/
def Obligations.GateArmLoadsTheWindowLength : Prop :=
  ∀ s : State, s.cfg.lEpc < 2 ^ 32 → s.cfg.lRn16 < 2 ^ 32 →
    (s.gate = .seekEpc →
      exec .gateArm s = .next { s with fwdLen := BitVec.ofNat 32 s.cfg.lEpc, gate := .closed, n := 0 }) ∧
    (s.gate = .seekRn16 →
      exec .gateArm s = .next { s with fwdLen := BitVec.ofNat 32 s.cfg.lRn16, gate := .closed, n := 0 }) ∧
    (s.gate = .closed ∨ s.gate = .opened → exec .gateArm s = .next s)

/-- R203: GATE.OPEN writes OPEN and N = 1, and among all commands only a SAMPLE opens the gate: one that is processed
with the gate not OPEN, in whose step the command-detected condition of R180 holds. -/
def Obligations.OnlyATriggerSampleOpensTheGate : Prop :=
  (∀ s : State, exec .gateOpen s = .next { s with n := 1, gate := .opened }) ∧
  (∀ (i : Instr) (s t : State), i.isCommand = true → s.gate ≠ .opened → exec i s = .next t → t.gate = .opened →
    (∃ x y, i = .sample x y) ∧ s.phase = .run ∧ t.n = 1 ∧ t.p = 0 ∧ t.edge = .rising ∧ s.edge = .rising ∧
      s.cfg.t1 < satInc s.n ∧ s.cfg.minPulses < s.p ∧ t.evt = s.evt ++ [.evOpen] ∧ t.rsp.ov = true)

/-- R204, with R27, R163 and R165: GATE.FWD forwards the corrected sample, appends its squared magnitude and counts it. That
the sample and its square stand among the values of the step afterwards is the model's choice (assumption 8). -/
def Obligations.GateFwdForwardsTheCorrectedSample : Prop :=
  ∀ (z : IQ) (s : State),
    ∃ y v, y = IQ.mk (s.cfg.num.sub z.i s.dc.i) (s.cfg.num.sub z.q s.dc.q) ∧
      v = s.cfg.num.add (s.cfg.num.mul y.i y.i) (s.cfg.num.mul y.q y.q) ∧
      exec (.gateFwd z) s = .next { s with
        out := s.out ++ [y], written := s.written + 1, msq := s.msq ++ [v]
        n := if s.n < 2 ^ 32 - 1 then s.n + 1 else s.n
        work := { s.work with y := y, sq := v } }

/-- R206: GATE.CLOSE closes a complete window and stops the invocation, and leaves any other alone. -/
def Obligations.GateCloseEndsTheWindow : Prop :=
  ∀ s : State,
    (s.fwdLen.toNat ≤ s.n →
      exec .gateClose s = .next { s with gate := .closed, phase := .stop, evt := s.evt ++ [.evClose] }) ∧
    (s.n < s.fwdLen.toNat → exec .gateClose s = .next s)

/-- R207, the rest of an open window within one invocation: a window that has forwarded N samples (the trigger sample
among them) forwards max(FWD_LEN, 2) - N more, corrected with the frozen DC, with their squared magnitudes appended to MSQ, and
then is closed with the answer DONE. The trigger sample itself, and an END and BEGIN inside the window, are not in it. -/
def Obligations.WindowForwardsItsWholeLength : Prop :=
  ∀ (s : State) (zs : List IQ), Inv s → Processing s → s.gate = .opened →
    s.n + zs.length = max s.fwdLen.toNat 2 →
    ∃ t, runInstrs (samplesOf zs) s = .next t ∧ t.gate = .closed ∧ t.phase = .stop ∧
      t.n = max s.fwdLen.toNat 2 ∧ t.out = s.out ++ zs.map (s.cfg.num.csub · s.dc) ∧
      t.msq = s.msq ++ zs.map (fun z => s.cfg.num.msq (s.cfg.num.csub z s.dc)) ∧
      t.written = s.written + zs.length ∧ t.consumed = s.consumed + zs.length ∧
      t.evt = s.evt ++ [.evClose] ∧ t.rsp.code = .done

/-- R200: every change of GATE that a command makes is a row of the transition table. -/
def Obligations.GateTransitionsAreTheTable : Prop :=
  ∀ (i : Instr) (s t : State), i.isCommand = true → exec i s = .next t → t.gate ≠ s.gate →
    (i.expand = .ctxwr .gate 1 ∧ s.phase = .idle ∧ t.gate = .seekEpc) ∨
    (i.expand = .ctxwr .gate 2 ∧ s.phase = .idle ∧ t.gate = .seekRn16) ∨
    ((∃ now, i = .beginInv now) ∧ s.gate = .seekEpc ∧ t.gate = .closed ∧ t.fwdLen = regWord s.cfg.lEpc ∧ t.n = 0) ∨
    ((∃ now, i = .beginInv now) ∧ s.gate = .seekRn16 ∧ t.gate = .closed ∧ t.fwdLen = regWord s.cfg.lRn16 ∧
      t.n = 0) ∨
    ((∃ x y, i = .sample x y) ∧ s.gate ≠ .opened ∧ t.gate = .opened) ∨
    ((∃ x y, i = .sample x y) ∧ s.gate = .opened ∧ t.gate = .closed ∧ t.phase = .stop ∧ s.fwdLen.toNat ≤ t.n) ∨
    (i = .reset ∧ t.gate = .closed)

/-! ### Stream router -/

/-- R226, R227, R262, R201: BEGIN in PHASE = IDLE, and ERR_PHASE with no state change elsewhere. -/
def Obligations.BeginStartsAnInvocation : Prop :=
  ∀ (now : Word32) (s : State), s.cfg.lEpc < 2 ^ 32 → s.cfg.lRn16 < 2 ^ 32 →
    (s.phase = .idle →
      ∃ ends : Bool, (ends = true ↔
          (s.cfg.maxQueries < s.nq.toNat ∨ s.cfg.tagTarget < s.ntags.toNat) ∧ s.status ≠ .terminated) ∧
        exec (.beginInv now) s = .next { s with
          status := if ends then .terminated else s.status
          tsEnd := if ends then now else s.tsEnd
          evt := if ends then s.evt ++ [.evTerminated (now - s.tsStart)] else s.evt
          gate := if s.gate = .opened then .opened else .closed
          fwdLen := if s.gate = .seekEpc then BitVec.ofNat 32 s.cfg.lEpc
            else if s.gate = .seekRn16 then BitVec.ofNat 32 s.cfg.lRn16 else s.fwdLen
          n := if s.gate = .seekEpc ∨ s.gate = .seekRn16 then 0 else s.n
          consumed := 0, written := 0, phase := .run, rsp := ⟨.ok, .empty⟩ }) ∧
    (s.phase ≠ .idle → exec (.beginInv now) s = .next { s with rsp := ⟨.errPhase, .empty⟩ })

/-- R231: in STOP a sample is answered STOPPED, in IDLE ERR_PHASE, and nothing changes. -/
def Obligations.SampleOutsideRunIsNotConsumed : Prop :=
  ∀ (i q : Scalar) (s : State),
    (s.phase = .stop → exec (.sample i q) s = .next { s with rsp := ⟨.stopped, .empty⟩ }) ∧
    (s.phase = .idle → exec (.sample i q) s = .next { s with rsp := ⟨.errPhase, .empty⟩ })

/-- R232: under DRAIN a sample offered in RUN to a terminated block is consumed and does nothing else; under CONTINUE
STATUS has no effect on SAMPLE: the step is the same whatever STATUS is. -/
def Obligations.TerminationPolicyGovernsSample : Prop :=
  ∀ (i q : Scalar) (s : State),
    (s.phase = .run → s.cfg.termPolicy = .drain → s.status = .terminated →
      exec (.sample i q) s = .next { s with consumed := s.consumed + 1, rsp := ⟨.ok, .empty⟩ }) ∧
    (s.cfg.termPolicy = .cont → ∀ (st : Status) (t : State), exec (.sample i q) s = .next t →
      exec (.sample i q) { s with status := st } = .next { t with status := st })

/-- R228, path (a): a processed SAMPLE with the gate not OPEN, whole: averager, DC estimator, N, the edge transition,
detection, and the response. Which edge transition is tried is read from EDGE as it was (assumption 19), and the values of the
step are cleared (assumption 8). -/
def Obligations.SampleWithGateNotOpen : Prop :=
  ∀ (i q oldM : Scalar) (oldS : IQ) (s : State), Processing s → s.gate ≠ .opened → RingsReadable s oldM oldS →
    let N := s.cfg.num
    let z := IQ.mk i q
    let m := N.mag z
    let avg := N.add s.avg (N.divn (N.sub m oldM) s.cfg.navg)
    let thr := N.tf avg s.cfg.threshFraction
    let dc := N.cadd s.dc (N.cdivn (N.csub z oldS) s.cfg.ndc)
    let n := if s.n < 2 ^ 32 - 1 then s.n + 1 else s.n
    let falls := s.edge = .rising ∧ N.lt m thr = true
    let rises := s.edge = .falling ∧ N.lt thr m = true
    let p := if rises then (if s.cfg.pw / 2 < n then (if s.p < 2 ^ 32 - 1 then s.p + 1 else s.p) else 0) else s.p
    let fires := s.edge = .rising ∧ N.lt m thr = false ∧ s.cfg.t1 < n ∧ s.cfg.minPulses < s.p
    let y := N.csub z dc
    exec (.sample i q) s = .next { s with
      avg := avg, win := s.win.set s.wi m, wi := (s.wi + 1) % s.cfg.navg
      dc := dc, dcw := s.dcw.set s.di z, di := (s.di + 1) % s.cfg.ndc
      edge := if falls then .falling else if rises then .rising else s.edge
      n := if fires then 1 else if falls ∨ rises then 0 else n
      p := if fires then 0 else p
      gate := if fires then .opened else s.gate
      msq := if fires then (if s.cfg.triggerAppendsMsq = true then [N.msq y] else []) else s.msq
      out := if fires then s.out ++ [y] else s.out
      written := if fires then s.written + 1 else s.written
      evt := if fires then s.evt ++ [.evOpen] else s.evt
      consumed := s.consumed + 1
      rsp := if fires then ⟨.ok, .sample y⟩ else ⟨.ok, .empty⟩
      work := ⟨0, 0, ⟨0, 0⟩, 0, 0⟩ }

/-- R228, path (b), with R141, R142, R204, R206 and R230: a processed SAMPLE with the gate OPEN, whole. The values of the
step are cleared (assumption 8). -/
def Obligations.SampleWithGateOpen : Prop :=
  ∀ (i q oldM : Scalar) (s : State), Processing s → s.gate = .opened → s.wi < s.cfg.navg →
    s.win[s.wi]? = some oldM →
    let N := s.cfg.num
    let z := IQ.mk i q
    let m := N.mag z
    let y := N.csub z s.dc
    let n := if s.n < 2 ^ 32 - 1 then s.n + 1 else s.n
    let complete := s.fwdLen.toNat ≤ n
    exec (.sample i q) s = .next { s with
      avg := N.add s.avg (N.divn (N.sub m oldM) s.cfg.navg)
      win := s.win.set s.wi m, wi := (s.wi + 1) % s.cfg.navg
      out := s.out ++ [y], written := s.written + 1, msq := s.msq ++ [N.msq y], n := n
      consumed := s.consumed + 1
      gate := if complete then .closed else .opened
      phase := if complete then .stop else .run
      evt := if complete then s.evt ++ [.evClose] else s.evt
      rsp := ⟨if complete then .done else .ok, .sample y⟩
      work := ⟨0, 0, ⟨0, 0⟩, 0, 0⟩ }

/-- R229: a processed SAMPLE is its micro-operations in their fixed order, then the count, the response and the end of the
step's values. That EDGE as it was chooses between EDGE.FALL and EDGE.RISE is the model's reading of R175 and R179 (assumption
19), and that the values of the step are cleared is its own field's (assumption 8). -/
def Obligations.SampleIsItsMicroOperations : Prop :=
  ∀ (i q : Scalar) (s t : State), Processing s → exec (.sample i q) s = .next t →
    (s.gate ≠ .opened →
      ∃ u, runInstrs [.mag ⟨i, q⟩, .avgUpd, .avgThr, .dcUpd ⟨i, q⟩, .nInc,
          if s.edge = .rising then .edgeFall else .edgeRise, .detFire ⟨i, q⟩] s = .next u ∧
        t = { u with consumed := s.consumed + 1, work := .clear
                     rsp := if u.gate = .opened then ⟨.ok, .sample u.work.y⟩ else ⟨.ok, .empty⟩ }) ∧
    (s.gate = .opened →
      ∃ u, runInstrs [.mag ⟨i, q⟩, .avgUpd, .avgThr, .gateFwd ⟨i, q⟩, .gateClose] s = .next u ∧
        t = { u with consumed := s.consumed + 1, work := .clear
                     rsp := ⟨if u.gate = .closed then .done else .ok, .sample u.work.y⟩ })

/-- R234: END returns the counts and goes to IDLE; in IDLE it answers ERR_PHASE and changes nothing. -/
def Obligations.EndReturnsTheCounts : Prop :=
  ∀ s : State,
    (s.phase ≠ .idle →
      exec .endInv s = .next { s with phase := .idle, rsp := ⟨.ok, .counts s.consumed s.written⟩ }) ∧
    (s.phase = .idle → exec .endInv s = .next { s with rsp := ⟨.errPhase, .empty⟩ })

/-- R236, R239: INVOKE completes from PHASE = IDLE. It is BEGIN, the first k samples of the batch and END; k is the whole
batch or the sample that answered DONE; its result is the counts of that END and the outputs of those samples, with
written = number of outputs <= consumed = k <= K. -/
def Obligations.InvokeIsItsCommandSequence : Prop :=
  ∀ (now : Word32) (batch : List IQ) (s : State), Inv s → s.phase = .idle →
    ∃ (k : Nat) (u v t : State) (outs : List IQ),
      k ≤ batch.length ∧
      runInstrs (.beginInv now :: samplesOf (batch.take k)) s = .next u ∧
      exec .endInv u = .next v ∧ v.rsp = ⟨.ok, .counts k outs.length⟩ ∧
      (k < batch.length → u.rsp.code = .done) ∧
      (∀ (j : Nat) (w : State), j < k → runInstrs (.beginInv now :: samplesOf (batch.take j)) s = .next w →
        w.phase = .run) ∧
      exec (.invoke now batch) s = .next t ∧ t = { v with rsp := ⟨.ok, .invoked k outs.length outs⟩ } ∧
      t.out = s.out ++ outs ∧ outs.length ≤ k

/-- R236: "BEGIN now -- must return OK". Where the PHASE is not IDLE, INVOKE answers BEGIN's ERR_PHASE and changes nothing
else (the model's choice: assumption 10). -/
def Obligations.InvokeOutsideIdleAnswersErrPhase : Prop :=
  ∀ (now : Word32) (batch : List IQ) (s : State), s.phase ≠ .idle →
    exec (.invoke now batch) s = .next { s with rsp := ⟨.errPhase, .empty⟩ }

/-- R238: splitting a batch in two changes neither the outputs nor the state but for CONSUMED, WRITTEN and the
response. -/
def Obligations.SplittingABatchChangesNothing : Prop :=
  ∀ (now now' : Word32) (A B : List IQ) (s t : State) (c w : Nat) (outs : List IQ), Inv s → s.phase = .idle →
    exec (.invoke now (A ++ B)) s = .next t → t.rsp = ⟨.ok, .invoked c w outs⟩ →
    (A.length < c →
      ∃ (u v : State) (w1 w2 : Nat) (outs1 outs2 : List IQ),
        exec (.invoke now A) s = .next u ∧ u.rsp = ⟨.ok, .invoked A.length w1 outs1⟩ ∧
        exec (.invoke now' B) u = .next v ∧ v.rsp = ⟨.ok, .invoked (c - A.length) w2 outs2⟩ ∧
        outs = outs1 ++ outs2 ∧ w = w1 + w2 ∧
        t = { v with consumed := t.consumed, written := t.written, rsp := t.rsp }) ∧
    (c ≤ A.length → exec (.invoke now A) s = .next t)

/-! ### Context access -/

/-- R262: TERM.CHK, when its condition holds and when it does not. -/
def Obligations.TermChkStampsTheEnd : Prop :=
  ∀ (now : Word32) (s : State),
    (s.cfg.maxQueries < s.nq.toNat ∨ s.cfg.tagTarget < s.ntags.toNat → s.status = .running →
      exec (.termChk now) s = .next { s with
        status := .terminated, tsEnd := now, evt := s.evt ++ [.evTerminated (now - s.tsStart)] }) ∧
    ((s.nq.toNat ≤ s.cfg.maxQueries ∧ s.ntags.toNat ≤ s.cfg.tagTarget) ∨ s.status = .terminated →
      exec (.termChk now) s = .next s)

/-- R263: every CTXWR: the writes of PHASE = IDLE, and the three errors, each with no state change. -/
def Obligations.CtxwrWritesWhatTheHostMayWrite : Prop :=
  ∀ (data : Word32) (s : State),
    (s.phase = .idle →
      (data = 1 → exec (.ctxwr .gate data) s = .next { s with gate := .seekEpc, rsp := ⟨.ok, .empty⟩ }) ∧
      (data = 2 → exec (.ctxwr .gate data) s = .next { s with gate := .seekRn16, rsp := ⟨.ok, .empty⟩ }) ∧
      (data ≠ 1 → data ≠ 2 → exec (.ctxwr .gate data) s = .next { s with rsp := ⟨.errDenied, .empty⟩ }) ∧
      (data = 0 → exec (.ctxwr .status data) s = .next { s with status := .running, rsp := ⟨.ok, .empty⟩ }) ∧
      (data = 1 → exec (.ctxwr .status data) s = .next { s with status := .terminated, rsp := ⟨.ok, .empty⟩ }) ∧
      (data ≠ 0 → data ≠ 1 → exec (.ctxwr .status data) s = .next { s with rsp := ⟨.errDenied, .empty⟩ }) ∧
      exec (.ctxwr .nq data) s = .next { s with nq := data, rsp := ⟨.ok, .empty⟩ } ∧
      exec (.ctxwr .ntags data) s = .next { s with ntags := data, rsp := ⟨.ok, .empty⟩ } ∧
      exec (.ctxwr .tsStart data) s = .next { s with tsStart := data, rsp := ⟨.ok, .empty⟩ } ∧
      (∀ reg ∈ [CtxReg.fwdLen, .tsEnd, .msqLen, .cfgT1, .cfgPw, .cfgBit, .cfgNavg, .cfgNdc],
        exec (.ctxwr reg data) s = .next { s with rsp := ⟨.errDenied, .empty⟩ }) ∧
      (∀ reg ∈ [CtxReg.unmappedD, .unmappedE, .unmappedF],
        exec (.ctxwr reg data) s = .next { s with rsp := ⟨.errRange, .empty⟩ })) ∧
    (s.phase ≠ .idle → ∀ reg, exec (.ctxwr reg data) s = .next { s with rsp := ⟨.errPhase, .empty⟩ })

/-- R265: a pseudo-instruction is the CTXWR it is another name of, and in PHASE = IDLE it writes the request. -/
def Obligations.ArmingIsAWriteOfGate : Prop :=
  ∀ s : State, exec .armEpc s = exec (.ctxwr .gate 1) s ∧ exec .armRn16 s = exec (.ctxwr .gate 2) s ∧
    (s.phase = .idle →
      exec .armEpc s = .next { s with gate := .seekEpc, rsp := ⟨.ok, .empty⟩ } ∧
      exec .armRn16 s = .next { s with gate := .seekRn16, rsp := ⟨.ok, .empty⟩ })

/-- R264, R71: CTXRD in every PHASE returns the register at the address and changes no state; the numbers of the
enumerated registers are R33's and R35's. What it returns of a length or a count that needs more than 32 bits is open
(assumption 5), but it returns OK and a word there too. -/
def Obligations.CtxrdReturnsTheRegister : Prop :=
  ∀ s : State,
    (∀ x ∈ [(CtxReg.gate, (match s.gate with
          | .closed => 0 | .seekEpc => 1 | .seekRn16 => 2 | .opened => 3 : Word32)),
        (.fwdLen, s.fwdLen), (.status, match s.status with | .running => 0 | .terminated => 1),
        (.nq, s.nq), (.ntags, s.ntags), (.tsStart, s.tsStart), (.tsEnd, s.tsEnd)],
      exec (.ctxrd x.1) s = .next { s with rsp := ⟨.ok, .data x.2⟩ }) ∧
    (∀ x ∈ [(CtxReg.msqLen, s.msq.length), (.cfgT1, s.cfg.t1), (.cfgPw, s.cfg.pw), (.cfgBit, s.cfg.bit),
        (.cfgNavg, s.cfg.navg), (.cfgNdc, s.cfg.ndc)],
      ∃ d : Word32, exec (.ctxrd x.1) s = .next { s with rsp := ⟨.ok, .data d⟩ } ∧
        (x.2 < 2 ^ 32 → d = BitVec.ofNat 32 x.2)) ∧
    (∀ reg ∈ [CtxReg.unmappedD, .unmappedE, .unmappedF],
      exec (.ctxrd reg) s = .next { s with rsp := ⟨.errRange, .empty⟩ })

/-- R266: MSQRD in every PHASE returns the element, or ERR_RANGE at or past MSQ_LEN, and changes no state. -/
def Obligations.MsqrdReturnsTheElement : Prop :=
  ∀ (idx : Word32) (s : State),
    (∀ h : idx.toNat < s.msq.length,
      exec (.msqrd idx) s = .next { s with rsp := ⟨.ok, .value s.msq[idx.toNat]⟩ }) ∧
    (s.msq.length ≤ idx.toNat → exec (.msqrd idx) s = .next { s with rsp := ⟨.errRange, .empty⟩ })

/-- R267: over any sequence of commands without RESET and without a write of STATUS = RUNNING, a terminated block stays terminated
with TS_END as it is and no further EV_TERMINATED. -/
def Obligations.TerminationHappensOnce : Prop :=
  ∀ (is : List Instr) (s t : State), (∀ i ∈ is, i.isCommand = true ∧ i ≠ .reset ∧ i ≠ .ctxwr .status 0) →
    s.status = .terminated → runInstrs is s = .next t →
    t.status = .terminated ∧ t.tsEnd = s.tsEnd ∧
      ∃ new : List Event, t.evt = s.evt ++ new ∧ ∀ e, Event.evTerminated e ∉ new

/-! ### The whole machine -/

/-- R290, R300: a command answered with an error or STOPPED has changed nothing but the response. -/
def Obligations.ErrorsChangeNothing : Prop :=
  ∀ (i : Instr) (s t : State), i.isCommand = true → exec i s = .next t →
    (t.rsp.code ≠ .ok ∧ t.rsp.code ≠ .done) → t = { s with rsp := ⟨t.rsp.code, .empty⟩ }

/-- R297: no command faults in a reachable state, and what a step can do there is go on. -/
def Obligations.NoCommandFaults : Prop :=
  (∀ (i : Instr) (s : State), Inv s → i.isCommand = true → ∃ t, exec i s = .next t) ∧
  (∀ s : State, Inv s → (∀ w ∈ s.cmds, w < 2 ^ commandWidth s.cfg.num.sw) → StepsOn s)

/-- R129: no step writes a field of `Config`, and no command does. -/
def Obligations.ConfigNeverChanges : Prop :=
  (∀ s t : State, step s = .next t → t.cfg = s.cfg) ∧
  (∀ (i : Instr) (s t : State), i.isCommand = true → exec i s = .next t → t.cfg = s.cfg)

/-- R47, R31: every step keeps the invariant. -/
def Obligations.StepKeepsTheInvariant : Prop := ∀ s t : State, Inv s → step s = .next t → Inv t

/-- R47, R144, R164: the reset state and every constructed machine meet the invariant and the means. -/
def Obligations.ConstructedMachinesMeetTheInvariant : Prop :=
  (Inv State.reset ∧ MeansOk State.reset) ∧
  (∀ (p : Params) (s t : State), exec (.construct p) s = .next t → Inv t ∧ MeansOk t)

/-- R322: apart from RESET, only a processed SAMPLE writes the estimators: every other command leaves AVG, WIN, WI, DC,
DCW and DI as they are. R162: while GATE = OPEN not even a SAMPLE writes DC, DCW or DI. -/
def Obligations.OnlySamplesMoveTheEstimators : Prop :=
  ∀ (i : Instr) (s t : State), i.isCommand = true → i ≠ .reset → exec i s = .next t →
    ((∀ x y, i ≠ .sample x y) → t.avg = s.avg ∧ t.win = s.win ∧ t.wi = s.wi) ∧
    ((∀ x y, i ≠ .sample x y) ∨ s.gate = .opened → t.dc = s.dc ∧ t.dcw = s.dcw ∧ t.di = s.di)

/-- R99: `NUM.dec` and `NUM.enc` are inverse to each other under every instance, over SW bits (under NUM_exact exactly;
of an open instance `enc` is found from `dec`, assumption 23); and with SW = 16 under NUM_exact the scalars with a
representation are the integers -32768..32767, in 16-bit two's complement. -/
def Obligations.DecInvertsEnc : Prop :=
  (∀ (N : Numerics) (x : Scalar) (b : Nat), N.enc x = some b → b < 2 ^ N.sw ∧ N.dec b = x) ∧
  (∀ (N : Numerics) (b : Nat), b < 2 ^ N.sw →
    (∃ c, N.enc (N.dec b) = some c ∧ N.dec c = N.dec b) ∧ (N.inst = .exact → N.enc (N.dec b) = some b)) ∧
  (∀ (N : Numerics) (x : Scalar), N.inst = .exact → N.sw = 16 →
    ((∃ b, N.enc x = some b) ↔ ∃ v : Int, -32768 ≤ v ∧ v ≤ 32767 ∧ x = (v : Scalar))) ∧
  (∀ (N : Numerics) (v : Nat), N.inst = .exact → N.sw = 16 →
    (v ≤ 32767 → N.enc (v : Scalar) = some v) ∧
    (1 ≤ v → v ≤ 32768 → N.enc (-(v : Scalar)) = some (2 ^ 16 - v)))
end

