-- ==== Sys2Proof/Laws/Numerics.lean ====
section
/-! SUPPORT. The arithmetic of NUM_exact: the integer square root, the magnitude, and the encoded scalars. -/

namespace Sys2Proof

/-- The bits below k bring a root found so far up to the root, if it lies within them. -/
theorem isqrtFrom_sq (m k : Nat) : ∀ acc, acc ≤ m → m < acc + 2 ^ k → isqrtFrom (m * m) k acc = m := by
  induction k with
  | zero => intro acc h1 h2; simp only [isqrtFrom]; omega
  | succ k ih =>
    intro acc h1 h2
    rw [pow_succ] at h2
    simp only [isqrtFrom]
    split
    · next h => exact ih _ (Nat.mul_self_le_mul_self_iff.mp h) (by omega)
    · next h =>
      have : m < acc + 2 ^ k := by
        by_contra hc; exact h (Nat.mul_self_le_mul_self (Nat.not_lt.mp hc))
      exact ih _ h1 this

/-- The integer square root of a square. -/
theorem isqrt_sq (m : Nat) : isqrt (m * m) = m := by
  refine isqrtFrom_sq m _ 0 (Nat.zero_le m) ?_
  rw [Nat.zero_add]
  by_contra hc
  have h1 : 2 ^ ((m * m).log2 / 2 + 1) * 2 ^ ((m * m).log2 / 2 + 1) ≤ m * m :=
    Nat.mul_self_le_mul_self (Nat.not_lt.mp hc)
  rw [← pow_add] at h1
  have h2 : m * m < 2 ^ ((m * m).log2 + 1) := Nat.lt_log2_self
  have h3 : 2 ^ ((m * m).log2 / 2 + 1 + ((m * m).log2 / 2 + 1)) < 2 ^ ((m * m).log2 + 1) := lt_of_le_of_lt h1 h2
  have h4 := (Nat.pow_lt_pow_iff_right (by norm_num : 1 < 2)).mp h3
  omega

/-- M is never negative under NUM_exact (R142). -/
theorem exactMag_nonneg (i q : Scalar) : 0 ≤ exactMag i q := by
  simp only [exactMag]
  split
  · positivity
  · exact abs_nonneg _

/-- Where I^2 + Q^2 is the square of a rational, its root is the magnitude (R8, R142). -/
theorem exactMag_of_square {i q r : Scalar} (hr : 0 ≤ r) (h : i * i + q * q = r * r) : exactMag i q = r := by
  have hn : (r * r).num.toNat = r.num.toNat * r.num.toNat := by
    rw [Rat.mul_self_num]
    obtain ⟨k, hk⟩ := Int.eq_ofNat_of_zero_le (Rat.num_nonneg.mpr hr)
    rw [hk, Int.toNat_natCast, ← Nat.cast_mul, Int.toNat_natCast]
  have hd : (r * r).den = r.den * r.den := Rat.mul_self_den r
  simp only [exactMag, h, hn, hd, isqrt_sq, and_self, if_true]
  have h0 : ((r.num.toNat : Nat) : Int) = r.num := Int.toNat_of_nonneg (Rat.num_nonneg.mpr hr)
  have h1 : ((r.num.toNat : Nat) : Rat) = (r.num : Rat) := by exact_mod_cast congrArg (Int.cast (R := Rat)) h0
  rw [h1]
  exact Rat.num_div_den r

/-- `dec` inverts `enc` on the integers the example instance represents (R99). -/
theorem exactDec_exactEnc {sw b : Nat} {x : Scalar} (h : exactEnc sw x = some b) : exactDec sw b = x := by
  unfold exactEnc at h
  split at h
  · next hx =>
    obtain ⟨hden, hlo, hhi⟩ := hx
    simp only [Option.some.injEq] at h
    have hp : (0 : Int) < 2 ^ sw := by positivity
    have hb : (b : Int) = x.num % 2 ^ sw := by
      rw [← h, Int.toNat_of_nonneg (Int.emod_nonneg _ (ne_of_gt hp))]
    have hxi : x = (x.num : Scalar) := (Rat.coe_int_num_of_den_eq_one hden).symm
    have hcast : ((2 ^ sw : Nat) : Int) = 2 ^ sw := by push_cast; rfl
    unfold exactDec
    rcases lt_or_ge x.num 0 with hneg | hpos
    · have h1 : x.num % 2 ^ sw = x.num + 2 ^ sw := by
        rw [← Int.add_emod_right, Int.emod_eq_of_lt (by omega) (by omega)]
      have h2 : ¬ 2 * b < 2 ^ sw := by
        intro hc
        have : (2 * b : Int) < 2 ^ sw := by rw [← hcast]; exact_mod_cast hc
        omega
      rw [if_neg h2, hb, h1, hxi]; push_cast; simp
    · have h1 : x.num % 2 ^ sw = x.num := Int.emod_eq_of_lt hpos (by omega)
      have h2 : 2 * b < 2 ^ sw := by
        have : (2 * b : Int) < ((2 ^ sw : Nat) : Int) := by rw [hcast]; omega
        exact_mod_cast this
      rw [if_pos h2, hb, h1, ← hxi]
  · cases h

/-- What `inverseOf` finds lies in its range and is read back by `dec`. -/
theorem inverseOf_some {dec : Nat → Scalar} {n b : Nat} {x : Scalar} (h : inverseOf dec n x = some b) :
    b < n ∧ dec b = x :=
  ⟨List.mem_range.mp (List.mem_of_find?_eq_some h), by simpa using List.find?_some h⟩

/-- `inverseOf` finds a number for every scalar that `dec` reads from its range. -/
theorem inverseOf_dec (dec : Nat → Scalar) {n b : Nat} (hb : b < n) :
    ∃ c, inverseOf dec n (dec b) = some c ∧ dec c = dec b := by
  have h : (inverseOf dec n (dec b)).isSome := by
    rw [inverseOf, List.find?_isSome]
    exact ⟨b, List.mem_range.mpr hb, by simp⟩
  obtain ⟨c, hc⟩ := Option.isSome_iff_exists.mp h
  exact ⟨c, hc, (inverseOf_some hc).2⟩

/-- `enc` inverts `dec` on SW bits of the example instance (R99). -/
theorem exactEnc_exactDec {sw b : Nat} (hb : b < 2 ^ sw) : exactEnc sw (exactDec sw b) = some b := by
  have hb' : (b : Int) < 2 ^ sw := by exact_mod_cast hb
  have hc : ∀ v : Int, 2 * v < 2 ^ sw → -(2 : Int) ^ sw ≤ 2 * v → exactEnc sw (v : Scalar) = some (v % 2 ^ sw).toNat :=
    fun v h1 h2 => by rw [exactEnc, if_pos ⟨Rat.den_intCast v, by simpa using h2, by simpa using h1⟩, Rat.num_intCast]
  unfold exactDec
  split
  · next h =>
    have h' : (2 * b : Int) < 2 ^ sw := by exact_mod_cast h
    rw [hc b h' (by omega), Int.emod_eq_of_lt (by omega) hb', Int.toNat_natCast]
  · next h =>
    have h' : ¬ (2 * b : Int) < 2 ^ sw := by intro hn; exact h (by exact_mod_cast hn)
    rw [hc _ (by omega) (by omega), Int.sub_emod_right, Int.emod_eq_of_lt (by omega) hb', Int.toNat_natCast]

/-- `dec` inverts `enc` under every instance (R99). -/
theorem Numerics.dec_enc {N : Numerics} {x : Scalar} {b : Nat} (h : N.enc x = some b) : N.dec b = x := by
  unfold Numerics.enc at h; unfold Numerics.dec
  cases hk : N.inst <;> simp only [hk] at h ⊢
  · exact exactDec_exactEnc h
  · exact (inverseOf_some h).2

/-- `enc` gives a representation of every scalar that `dec` reads from SW bits (R99). -/
theorem Numerics.enc_dec (N : Numerics) {b : Nat} (hb : b < 2 ^ N.sw) :
    ∃ c, N.enc (N.dec b) = some c ∧ N.dec c = N.dec b := by
  unfold Numerics.enc Numerics.dec
  cases hk : N.inst <;> simp only
  · exact ⟨b, exactEnc_exactDec hb, rfl⟩
  · exact inverseOf_dec _ hb

end Sys2Proof
end

