-- ==== Sys2Proof/Laws/Codec.lean ====
section
/-! SUPPORT. The bit fields of a command word, the CTX addresses, and the scalars a word can carry. -/

namespace Sys2Proof

theorem slice_eq (w lo width : Nat) : slice w lo width = w / 2 ^ lo % 2 ^ width := by
  rw [slice, Nat.shiftRight_eq_div_pow]

/-- A field narrower than its slot is read back whole from a word whose lower bits are below the slot. -/
theorem slice_of_parts {low field rest lo width : Nat} (hl : low < 2 ^ lo) (hf : field < 2 ^ width) :
    slice (low + field * 2 ^ lo + rest * 2 ^ (lo + width)) lo width = field := by
  rw [slice_eq]
  have h1 : low + field * 2 ^ lo + rest * 2 ^ (lo + width) = low + 2 ^ lo * (field + 2 ^ width * rest) := by
    rw [pow_add]; ring
  rw [h1, Nat.add_mul_div_left _ _ (Nat.two_pow_pos lo), Nat.div_eq_of_lt hl, Nat.zero_add,
    Nat.add_mul_mod_self_left, Nat.mod_eq_of_lt hf]

/-- The opcode is the word modulo 16 (R91). -/
theorem slice_op (w : Nat) : slice w 0 4 = w % 16 := by rw [slice_eq]; norm_num

theorem CtxReg.ofAddr_addr (r : CtxReg) : CtxReg.ofAddr r.addr = r := by cases r <;> rfl

theorem CtxReg.addr_lt (r : CtxReg) : r.addr < 16 := by cases r <;> decide

/-- A scalar's representation fits the SW bits of its field (R93). -/
theorem Numerics.enc_lt {N : Numerics} {x : Scalar} {b : Nat} (h : N.enc x = some b) : b < 2 ^ N.sw := by
  cases hk : N.inst with
  | other k => unfold Numerics.enc at h; rw [hk] at h; exact (inverseOf_some h).1
  | exact =>
    unfold Numerics.enc exactEnc at h
    rw [hk] at h
    simp only [Option.ite_none_right_eq_some, Option.some.injEq] at h
    have hp : (0 : Int) < 2 ^ N.sw := by positivity
    have h0 := Int.emod_nonneg x.num (ne_of_gt hp)
    have h1 := Int.emod_lt_of_pos x.num hp
    have h2 : ((2 ^ N.sw : Nat) : Int) = 2 ^ N.sw := by push_cast; rfl
    omega

/-- What it means that a scalar can be carried by a SAMPLE word (R99). -/
theorem Numerics.encodable_iff {N : Numerics} {x : Scalar} :
    N.encodable x = true ↔ ∃ b, N.enc x = some b ∧ N.dec b = x := by
  rw [Numerics.encodable, Option.isSome_iff_exists]
  exact exists_congr fun b => ⟨fun h => ⟨h, Numerics.dec_enc h⟩, And.left⟩

theorem forty_le_commandWidth (sw : Nat) : 40 ≤ commandWidth sw := le_max_left _ _

theorem sample_le_commandWidth (sw : Nat) : 4 + 2 * sw ≤ commandWidth sw := le_max_right _ _

/-- Every number of at most 40 bits fits the command port (R91). -/
theorem lt_port_of_lt {w : Nat} (sw : Nat) (h : w < 2 ^ 40) : w < 2 ^ commandWidth sw :=
  lt_of_lt_of_le h (Nat.pow_le_pow_right (by norm_num) (forty_le_commandWidth sw))

/-- A SAMPLE word of two SW-bit fields fits the command port (R91, R93). -/
theorem sample_word_lt {sw a b : Nat} (ha : a < 2 ^ sw) (hb : b < 2 ^ sw) :
    0x2 + a * 2 ^ 4 + b * 2 ^ (4 + sw) < 2 ^ commandWidth sw := by
  refine lt_of_lt_of_le ?_ (Nat.pow_le_pow_right (by norm_num) (sample_le_commandWidth sw))
  have h1 : (2 : Nat) ^ (4 + 2 * sw) = 16 * (2 ^ sw * 2 ^ sw) := by
    rw [pow_add, two_mul, pow_add]; norm_num
  have h2 : (2 : Nat) ^ (4 + sw) = 16 * 2 ^ sw := by rw [pow_add]; norm_num
  rw [h1, h2]
  nlinarith [Nat.mul_le_mul_right (2 ^ sw) (Nat.succ_le_of_lt hb)]

/-- A word of CW bits is read as a command; a wider one is rejected. -/
theorem decode_of_lt {N : Numerics} {w : Nat} (h : w < 2 ^ commandWidth N.sw) :
    decode N w = .ok (readCommand N w) := if_neg (Nat.not_le.mpr h)

theorem decode_of_wide {N : Numerics} {w : Nat} (h : 2 ^ commandWidth N.sw ≤ w) :
    decode N w = .error .widerThanPort := if_pos h

end Sys2Proof
end

