-- ==== Sys2Proof/Laws/State.lean ====
section
/-! SUPPORT. What each basic update of the state does to each field: the update writes the fields it names and leaves every
other as it was. All hold by rfl, so no later proof unfolds a record update. -/

namespace Sys2Proof.Machine

/-! ### State.respond -/

@[simp] theorem State.respond_cfg (s : State) (r : Response) : (s.respond r).cfg = s.cfg := rfl
@[simp] theorem State.respond_avg (s : State) (r : Response) : (s.respond r).avg = s.avg := rfl
@[simp] theorem State.respond_wi (s : State) (r : Response) : (s.respond r).wi = s.wi := rfl
@[simp] theorem State.respond_win (s : State) (r : Response) : (s.respond r).win = s.win := rfl
@[simp] theorem State.respond_dc (s : State) (r : Response) : (s.respond r).dc = s.dc := rfl
@[simp] theorem State.respond_di (s : State) (r : Response) : (s.respond r).di = s.di := rfl
@[simp] theorem State.respond_dcw (s : State) (r : Response) : (s.respond r).dcw = s.dcw := rfl
@[simp] theorem State.respond_n (s : State) (r : Response) : (s.respond r).n = s.n := rfl
@[simp] theorem State.respond_p (s : State) (r : Response) : (s.respond r).p = s.p := rfl
@[simp] theorem State.respond_edge (s : State) (r : Response) : (s.respond r).edge = s.edge := rfl
@[simp] theorem State.respond_gate (s : State) (r : Response) : (s.respond r).gate = s.gate := rfl
@[simp] theorem State.respond_fwdLen (s : State) (r : Response) : (s.respond r).fwdLen = s.fwdLen := rfl
@[simp] theorem State.respond_status (s : State) (r : Response) : (s.respond r).status = s.status := rfl
@[simp] theorem State.respond_nq (s : State) (r : Response) : (s.respond r).nq = s.nq := rfl
@[simp] theorem State.respond_ntags (s : State) (r : Response) : (s.respond r).ntags = s.ntags := rfl
@[simp] theorem State.respond_tsStart (s : State) (r : Response) : (s.respond r).tsStart = s.tsStart := rfl
@[simp] theorem State.respond_tsEnd (s : State) (r : Response) : (s.respond r).tsEnd = s.tsEnd := rfl
@[simp] theorem State.respond_msq (s : State) (r : Response) : (s.respond r).msq = s.msq := rfl
@[simp] theorem State.respond_phase (s : State) (r : Response) : (s.respond r).phase = s.phase := rfl
@[simp] theorem State.respond_consumed (s : State) (r : Response) : (s.respond r).consumed = s.consumed := rfl
@[simp] theorem State.respond_written (s : State) (r : Response) : (s.respond r).written = s.written := rfl
@[simp] theorem State.respond_out (s : State) (r : Response) : (s.respond r).out = s.out := rfl
@[simp] theorem State.respond_evt (s : State) (r : Response) : (s.respond r).evt = s.evt := rfl
@[simp] theorem State.respond_rsp (s : State) (r : Response) : (s.respond r).rsp = r := rfl
@[simp] theorem State.respond_cmds (s : State) (r : Response) : (s.respond r).cmds = s.cmds := rfl
@[simp] theorem State.respond_work (s : State) (r : Response) : (s.respond r).work = s.work := rfl

/-! ### State.writeWin -/

@[simp] theorem State.writeWin_cfg (s : State) (i : Nat) (v : Scalar) : (s.writeWin i v).cfg = s.cfg := rfl
@[simp] theorem State.writeWin_avg (s : State) (i : Nat) (v : Scalar) : (s.writeWin i v).avg = s.avg := rfl
@[simp] theorem State.writeWin_wi (s : State) (i : Nat) (v : Scalar) : (s.writeWin i v).wi = s.wi := rfl
@[simp] theorem State.writeWin_win (s : State) (i : Nat) (v : Scalar) : (s.writeWin i v).win = s.win.set i v := rfl
@[simp] theorem State.writeWin_dc (s : State) (i : Nat) (v : Scalar) : (s.writeWin i v).dc = s.dc := rfl
@[simp] theorem State.writeWin_di (s : State) (i : Nat) (v : Scalar) : (s.writeWin i v).di = s.di := rfl
@[simp] theorem State.writeWin_dcw (s : State) (i : Nat) (v : Scalar) : (s.writeWin i v).dcw = s.dcw := rfl
@[simp] theorem State.writeWin_n (s : State) (i : Nat) (v : Scalar) : (s.writeWin i v).n = s.n := rfl
@[simp] theorem State.writeWin_p (s : State) (i : Nat) (v : Scalar) : (s.writeWin i v).p = s.p := rfl
@[simp] theorem State.writeWin_edge (s : State) (i : Nat) (v : Scalar) : (s.writeWin i v).edge = s.edge := rfl
@[simp] theorem State.writeWin_gate (s : State) (i : Nat) (v : Scalar) : (s.writeWin i v).gate = s.gate := rfl
@[simp] theorem State.writeWin_fwdLen (s : State) (i : Nat) (v : Scalar) : (s.writeWin i v).fwdLen = s.fwdLen := rfl
@[simp] theorem State.writeWin_status (s : State) (i : Nat) (v : Scalar) : (s.writeWin i v).status = s.status := rfl
@[simp] theorem State.writeWin_nq (s : State) (i : Nat) (v : Scalar) : (s.writeWin i v).nq = s.nq := rfl
@[simp] theorem State.writeWin_ntags (s : State) (i : Nat) (v : Scalar) : (s.writeWin i v).ntags = s.ntags := rfl
@[simp] theorem State.writeWin_tsStart (s : State) (i : Nat) (v : Scalar) : (s.writeWin i v).tsStart = s.tsStart := rfl
@[simp] theorem State.writeWin_tsEnd (s : State) (i : Nat) (v : Scalar) : (s.writeWin i v).tsEnd = s.tsEnd := rfl
@[simp] theorem State.writeWin_msq (s : State) (i : Nat) (v : Scalar) : (s.writeWin i v).msq = s.msq := rfl
@[simp] theorem State.writeWin_phase (s : State) (i : Nat) (v : Scalar) : (s.writeWin i v).phase = s.phase := rfl
@[simp] theorem State.writeWin_consumed (s : State) (i : Nat) (v : Scalar) : (s.writeWin i v).consumed = s.consumed := rfl
@[simp] theorem State.writeWin_written (s : State) (i : Nat) (v : Scalar) : (s.writeWin i v).written = s.written := rfl
@[simp] theorem State.writeWin_out (s : State) (i : Nat) (v : Scalar) : (s.writeWin i v).out = s.out := rfl
@[simp] theorem State.writeWin_evt (s : State) (i : Nat) (v : Scalar) : (s.writeWin i v).evt = s.evt := rfl
@[simp] theorem State.writeWin_rsp (s : State) (i : Nat) (v : Scalar) : (s.writeWin i v).rsp = s.rsp := rfl
@[simp] theorem State.writeWin_cmds (s : State) (i : Nat) (v : Scalar) : (s.writeWin i v).cmds = s.cmds := rfl
@[simp] theorem State.writeWin_work (s : State) (i : Nat) (v : Scalar) : (s.writeWin i v).work = s.work := rfl

/-! ### State.writeDcw -/

@[simp] theorem State.writeDcw_cfg (s : State) (i : Nat) (v : IQ) : (s.writeDcw i v).cfg = s.cfg := rfl
@[simp] theorem State.writeDcw_avg (s : State) (i : Nat) (v : IQ) : (s.writeDcw i v).avg = s.avg := rfl
@[simp] theorem State.writeDcw_wi (s : State) (i : Nat) (v : IQ) : (s.writeDcw i v).wi = s.wi := rfl
@[simp] theorem State.writeDcw_win (s : State) (i : Nat) (v : IQ) : (s.writeDcw i v).win = s.win := rfl
@[simp] theorem State.writeDcw_dc (s : State) (i : Nat) (v : IQ) : (s.writeDcw i v).dc = s.dc := rfl
@[simp] theorem State.writeDcw_di (s : State) (i : Nat) (v : IQ) : (s.writeDcw i v).di = s.di := rfl
@[simp] theorem State.writeDcw_dcw (s : State) (i : Nat) (v : IQ) : (s.writeDcw i v).dcw = s.dcw.set i v := rfl
@[simp] theorem State.writeDcw_n (s : State) (i : Nat) (v : IQ) : (s.writeDcw i v).n = s.n := rfl
@[simp] theorem State.writeDcw_p (s : State) (i : Nat) (v : IQ) : (s.writeDcw i v).p = s.p := rfl
@[simp] theorem State.writeDcw_edge (s : State) (i : Nat) (v : IQ) : (s.writeDcw i v).edge = s.edge := rfl
@[simp] theorem State.writeDcw_gate (s : State) (i : Nat) (v : IQ) : (s.writeDcw i v).gate = s.gate := rfl
@[simp] theorem State.writeDcw_fwdLen (s : State) (i : Nat) (v : IQ) : (s.writeDcw i v).fwdLen = s.fwdLen := rfl
@[simp] theorem State.writeDcw_status (s : State) (i : Nat) (v : IQ) : (s.writeDcw i v).status = s.status := rfl
@[simp] theorem State.writeDcw_nq (s : State) (i : Nat) (v : IQ) : (s.writeDcw i v).nq = s.nq := rfl
@[simp] theorem State.writeDcw_ntags (s : State) (i : Nat) (v : IQ) : (s.writeDcw i v).ntags = s.ntags := rfl
@[simp] theorem State.writeDcw_tsStart (s : State) (i : Nat) (v : IQ) : (s.writeDcw i v).tsStart = s.tsStart := rfl
@[simp] theorem State.writeDcw_tsEnd (s : State) (i : Nat) (v : IQ) : (s.writeDcw i v).tsEnd = s.tsEnd := rfl
@[simp] theorem State.writeDcw_msq (s : State) (i : Nat) (v : IQ) : (s.writeDcw i v).msq = s.msq := rfl
@[simp] theorem State.writeDcw_phase (s : State) (i : Nat) (v : IQ) : (s.writeDcw i v).phase = s.phase := rfl
@[simp] theorem State.writeDcw_consumed (s : State) (i : Nat) (v : IQ) : (s.writeDcw i v).consumed = s.consumed := rfl
@[simp] theorem State.writeDcw_written (s : State) (i : Nat) (v : IQ) : (s.writeDcw i v).written = s.written := rfl
@[simp] theorem State.writeDcw_out (s : State) (i : Nat) (v : IQ) : (s.writeDcw i v).out = s.out := rfl
@[simp] theorem State.writeDcw_evt (s : State) (i : Nat) (v : IQ) : (s.writeDcw i v).evt = s.evt := rfl
@[simp] theorem State.writeDcw_rsp (s : State) (i : Nat) (v : IQ) : (s.writeDcw i v).rsp = s.rsp := rfl
@[simp] theorem State.writeDcw_cmds (s : State) (i : Nat) (v : IQ) : (s.writeDcw i v).cmds = s.cmds := rfl
@[simp] theorem State.writeDcw_work (s : State) (i : Nat) (v : IQ) : (s.writeDcw i v).work = s.work := rfl

/-! ### State.msqClear -/

@[simp] theorem State.msqClear_cfg (s : State) : (s.msqClear).cfg = s.cfg := rfl
@[simp] theorem State.msqClear_avg (s : State) : (s.msqClear).avg = s.avg := rfl
@[simp] theorem State.msqClear_wi (s : State) : (s.msqClear).wi = s.wi := rfl
@[simp] theorem State.msqClear_win (s : State) : (s.msqClear).win = s.win := rfl
@[simp] theorem State.msqClear_dc (s : State) : (s.msqClear).dc = s.dc := rfl
@[simp] theorem State.msqClear_di (s : State) : (s.msqClear).di = s.di := rfl
@[simp] theorem State.msqClear_dcw (s : State) : (s.msqClear).dcw = s.dcw := rfl
@[simp] theorem State.msqClear_n (s : State) : (s.msqClear).n = s.n := rfl
@[simp] theorem State.msqClear_p (s : State) : (s.msqClear).p = s.p := rfl
@[simp] theorem State.msqClear_edge (s : State) : (s.msqClear).edge = s.edge := rfl
@[simp] theorem State.msqClear_gate (s : State) : (s.msqClear).gate = s.gate := rfl
@[simp] theorem State.msqClear_fwdLen (s : State) : (s.msqClear).fwdLen = s.fwdLen := rfl
@[simp] theorem State.msqClear_status (s : State) : (s.msqClear).status = s.status := rfl
@[simp] theorem State.msqClear_nq (s : State) : (s.msqClear).nq = s.nq := rfl
@[simp] theorem State.msqClear_ntags (s : State) : (s.msqClear).ntags = s.ntags := rfl
@[simp] theorem State.msqClear_tsStart (s : State) : (s.msqClear).tsStart = s.tsStart := rfl
@[simp] theorem State.msqClear_tsEnd (s : State) : (s.msqClear).tsEnd = s.tsEnd := rfl
@[simp] theorem State.msqClear_msq (s : State) : (s.msqClear).msq = [] := rfl
@[simp] theorem State.msqClear_phase (s : State) : (s.msqClear).phase = s.phase := rfl
@[simp] theorem State.msqClear_consumed (s : State) : (s.msqClear).consumed = s.consumed := rfl
@[simp] theorem State.msqClear_written (s : State) : (s.msqClear).written = s.written := rfl
@[simp] theorem State.msqClear_out (s : State) : (s.msqClear).out = s.out := rfl
@[simp] theorem State.msqClear_evt (s : State) : (s.msqClear).evt = s.evt := rfl
@[simp] theorem State.msqClear_rsp (s : State) : (s.msqClear).rsp = s.rsp := rfl
@[simp] theorem State.msqClear_cmds (s : State) : (s.msqClear).cmds = s.cmds := rfl
@[simp] theorem State.msqClear_work (s : State) : (s.msqClear).work = s.work := rfl

/-! ### State.msqAppend -/

@[simp] theorem State.msqAppend_cfg (s : State) (v : Scalar) : (s.msqAppend v).cfg = s.cfg := rfl
@[simp] theorem State.msqAppend_avg (s : State) (v : Scalar) : (s.msqAppend v).avg = s.avg := rfl
@[simp] theorem State.msqAppend_wi (s : State) (v : Scalar) : (s.msqAppend v).wi = s.wi := rfl
@[simp] theorem State.msqAppend_win (s : State) (v : Scalar) : (s.msqAppend v).win = s.win := rfl
@[simp] theorem State.msqAppend_dc (s : State) (v : Scalar) : (s.msqAppend v).dc = s.dc := rfl
@[simp] theorem State.msqAppend_di (s : State) (v : Scalar) : (s.msqAppend v).di = s.di := rfl
@[simp] theorem State.msqAppend_dcw (s : State) (v : Scalar) : (s.msqAppend v).dcw = s.dcw := rfl
@[simp] theorem State.msqAppend_n (s : State) (v : Scalar) : (s.msqAppend v).n = s.n := rfl
@[simp] theorem State.msqAppend_p (s : State) (v : Scalar) : (s.msqAppend v).p = s.p := rfl
@[simp] theorem State.msqAppend_edge (s : State) (v : Scalar) : (s.msqAppend v).edge = s.edge := rfl
@[simp] theorem State.msqAppend_gate (s : State) (v : Scalar) : (s.msqAppend v).gate = s.gate := rfl
@[simp] theorem State.msqAppend_fwdLen (s : State) (v : Scalar) : (s.msqAppend v).fwdLen = s.fwdLen := rfl
@[simp] theorem State.msqAppend_status (s : State) (v : Scalar) : (s.msqAppend v).status = s.status := rfl
@[simp] theorem State.msqAppend_nq (s : State) (v : Scalar) : (s.msqAppend v).nq = s.nq := rfl
@[simp] theorem State.msqAppend_ntags (s : State) (v : Scalar) : (s.msqAppend v).ntags = s.ntags := rfl
@[simp] theorem State.msqAppend_tsStart (s : State) (v : Scalar) : (s.msqAppend v).tsStart = s.tsStart := rfl
@[simp] theorem State.msqAppend_tsEnd (s : State) (v : Scalar) : (s.msqAppend v).tsEnd = s.tsEnd := rfl
@[simp] theorem State.msqAppend_msq (s : State) (v : Scalar) : (s.msqAppend v).msq = s.msq ++ [v] := rfl
@[simp] theorem State.msqAppend_phase (s : State) (v : Scalar) : (s.msqAppend v).phase = s.phase := rfl
@[simp] theorem State.msqAppend_consumed (s : State) (v : Scalar) : (s.msqAppend v).consumed = s.consumed := rfl
@[simp] theorem State.msqAppend_written (s : State) (v : Scalar) : (s.msqAppend v).written = s.written := rfl
@[simp] theorem State.msqAppend_out (s : State) (v : Scalar) : (s.msqAppend v).out = s.out := rfl
@[simp] theorem State.msqAppend_evt (s : State) (v : Scalar) : (s.msqAppend v).evt = s.evt := rfl
@[simp] theorem State.msqAppend_rsp (s : State) (v : Scalar) : (s.msqAppend v).rsp = s.rsp := rfl
@[simp] theorem State.msqAppend_cmds (s : State) (v : Scalar) : (s.msqAppend v).cmds = s.cmds := rfl
@[simp] theorem State.msqAppend_work (s : State) (v : Scalar) : (s.msqAppend v).work = s.work := rfl

/-! ### State.outPut -/

@[simp] theorem State.outPut_cfg (s : State) (y : IQ) : (s.outPut y).cfg = s.cfg := rfl
@[simp] theorem State.outPut_avg (s : State) (y : IQ) : (s.outPut y).avg = s.avg := rfl
@[simp] theorem State.outPut_wi (s : State) (y : IQ) : (s.outPut y).wi = s.wi := rfl
@[simp] theorem State.outPut_win (s : State) (y : IQ) : (s.outPut y).win = s.win := rfl
@[simp] theorem State.outPut_dc (s : State) (y : IQ) : (s.outPut y).dc = s.dc := rfl
@[simp] theorem State.outPut_di (s : State) (y : IQ) : (s.outPut y).di = s.di := rfl
@[simp] theorem State.outPut_dcw (s : State) (y : IQ) : (s.outPut y).dcw = s.dcw := rfl
@[simp] theorem State.outPut_n (s : State) (y : IQ) : (s.outPut y).n = s.n := rfl
@[simp] theorem State.outPut_p (s : State) (y : IQ) : (s.outPut y).p = s.p := rfl
@[simp] theorem State.outPut_edge (s : State) (y : IQ) : (s.outPut y).edge = s.edge := rfl
@[simp] theorem State.outPut_gate (s : State) (y : IQ) : (s.outPut y).gate = s.gate := rfl
@[simp] theorem State.outPut_fwdLen (s : State) (y : IQ) : (s.outPut y).fwdLen = s.fwdLen := rfl
@[simp] theorem State.outPut_status (s : State) (y : IQ) : (s.outPut y).status = s.status := rfl
@[simp] theorem State.outPut_nq (s : State) (y : IQ) : (s.outPut y).nq = s.nq := rfl
@[simp] theorem State.outPut_ntags (s : State) (y : IQ) : (s.outPut y).ntags = s.ntags := rfl
@[simp] theorem State.outPut_tsStart (s : State) (y : IQ) : (s.outPut y).tsStart = s.tsStart := rfl
@[simp] theorem State.outPut_tsEnd (s : State) (y : IQ) : (s.outPut y).tsEnd = s.tsEnd := rfl
@[simp] theorem State.outPut_msq (s : State) (y : IQ) : (s.outPut y).msq = s.msq := rfl
@[simp] theorem State.outPut_phase (s : State) (y : IQ) : (s.outPut y).phase = s.phase := rfl
@[simp] theorem State.outPut_consumed (s : State) (y : IQ) : (s.outPut y).consumed = s.consumed := rfl
@[simp] theorem State.outPut_written (s : State) (y : IQ) : (s.outPut y).written = s.written + 1 := rfl
@[simp] theorem State.outPut_out (s : State) (y : IQ) : (s.outPut y).out = s.out ++ [y] := rfl
@[simp] theorem State.outPut_evt (s : State) (y : IQ) : (s.outPut y).evt = s.evt := rfl
@[simp] theorem State.outPut_rsp (s : State) (y : IQ) : (s.outPut y).rsp = s.rsp := rfl
@[simp] theorem State.outPut_cmds (s : State) (y : IQ) : (s.outPut y).cmds = s.cmds := rfl
@[simp] theorem State.outPut_work (s : State) (y : IQ) : (s.outPut y).work = s.work := rfl

/-! ### State.mag -/

@[simp] theorem State.mag_cfg (s : State) (z : IQ) : (s.mag z).cfg = s.cfg := rfl
@[simp] theorem State.mag_avg (s : State) (z : IQ) : (s.mag z).avg = s.avg := rfl
@[simp] theorem State.mag_wi (s : State) (z : IQ) : (s.mag z).wi = s.wi := rfl
@[simp] theorem State.mag_win (s : State) (z : IQ) : (s.mag z).win = s.win := rfl
@[simp] theorem State.mag_dc (s : State) (z : IQ) : (s.mag z).dc = s.dc := rfl
@[simp] theorem State.mag_di (s : State) (z : IQ) : (s.mag z).di = s.di := rfl
@[simp] theorem State.mag_dcw (s : State) (z : IQ) : (s.mag z).dcw = s.dcw := rfl
@[simp] theorem State.mag_n (s : State) (z : IQ) : (s.mag z).n = s.n := rfl
@[simp] theorem State.mag_p (s : State) (z : IQ) : (s.mag z).p = s.p := rfl
@[simp] theorem State.mag_edge (s : State) (z : IQ) : (s.mag z).edge = s.edge := rfl
@[simp] theorem State.mag_gate (s : State) (z : IQ) : (s.mag z).gate = s.gate := rfl
@[simp] theorem State.mag_fwdLen (s : State) (z : IQ) : (s.mag z).fwdLen = s.fwdLen := rfl
@[simp] theorem State.mag_status (s : State) (z : IQ) : (s.mag z).status = s.status := rfl
@[simp] theorem State.mag_nq (s : State) (z : IQ) : (s.mag z).nq = s.nq := rfl
@[simp] theorem State.mag_ntags (s : State) (z : IQ) : (s.mag z).ntags = s.ntags := rfl
@[simp] theorem State.mag_tsStart (s : State) (z : IQ) : (s.mag z).tsStart = s.tsStart := rfl
@[simp] theorem State.mag_tsEnd (s : State) (z : IQ) : (s.mag z).tsEnd = s.tsEnd := rfl
@[simp] theorem State.mag_msq (s : State) (z : IQ) : (s.mag z).msq = s.msq := rfl
@[simp] theorem State.mag_phase (s : State) (z : IQ) : (s.mag z).phase = s.phase := rfl
@[simp] theorem State.mag_consumed (s : State) (z : IQ) : (s.mag z).consumed = s.consumed := rfl
@[simp] theorem State.mag_written (s : State) (z : IQ) : (s.mag z).written = s.written := rfl
@[simp] theorem State.mag_out (s : State) (z : IQ) : (s.mag z).out = s.out := rfl
@[simp] theorem State.mag_evt (s : State) (z : IQ) : (s.mag z).evt = s.evt := rfl
@[simp] theorem State.mag_rsp (s : State) (z : IQ) : (s.mag z).rsp = s.rsp := rfl
@[simp] theorem State.mag_cmds (s : State) (z : IQ) : (s.mag z).cmds = s.cmds := rfl
@[simp] theorem State.mag_work (s : State) (z : IQ) : (s.mag z).work = { s.work with m := s.cfg.num.mag z } := rfl

/-! ### State.avgThr -/

@[simp] theorem State.avgThr_cfg (s : State) : (s.avgThr).cfg = s.cfg := rfl
@[simp] theorem State.avgThr_avg (s : State) : (s.avgThr).avg = s.avg := rfl
@[simp] theorem State.avgThr_wi (s : State) : (s.avgThr).wi = s.wi := rfl
@[simp] theorem State.avgThr_win (s : State) : (s.avgThr).win = s.win := rfl
@[simp] theorem State.avgThr_dc (s : State) : (s.avgThr).dc = s.dc := rfl
@[simp] theorem State.avgThr_di (s : State) : (s.avgThr).di = s.di := rfl
@[simp] theorem State.avgThr_dcw (s : State) : (s.avgThr).dcw = s.dcw := rfl
@[simp] theorem State.avgThr_n (s : State) : (s.avgThr).n = s.n := rfl
@[simp] theorem State.avgThr_p (s : State) : (s.avgThr).p = s.p := rfl
@[simp] theorem State.avgThr_edge (s : State) : (s.avgThr).edge = s.edge := rfl
@[simp] theorem State.avgThr_gate (s : State) : (s.avgThr).gate = s.gate := rfl
@[simp] theorem State.avgThr_fwdLen (s : State) : (s.avgThr).fwdLen = s.fwdLen := rfl
@[simp] theorem State.avgThr_status (s : State) : (s.avgThr).status = s.status := rfl
@[simp] theorem State.avgThr_nq (s : State) : (s.avgThr).nq = s.nq := rfl
@[simp] theorem State.avgThr_ntags (s : State) : (s.avgThr).ntags = s.ntags := rfl
@[simp] theorem State.avgThr_tsStart (s : State) : (s.avgThr).tsStart = s.tsStart := rfl
@[simp] theorem State.avgThr_tsEnd (s : State) : (s.avgThr).tsEnd = s.tsEnd := rfl
@[simp] theorem State.avgThr_msq (s : State) : (s.avgThr).msq = s.msq := rfl
@[simp] theorem State.avgThr_phase (s : State) : (s.avgThr).phase = s.phase := rfl
@[simp] theorem State.avgThr_consumed (s : State) : (s.avgThr).consumed = s.consumed := rfl
@[simp] theorem State.avgThr_written (s : State) : (s.avgThr).written = s.written := rfl
@[simp] theorem State.avgThr_out (s : State) : (s.avgThr).out = s.out := rfl
@[simp] theorem State.avgThr_evt (s : State) : (s.avgThr).evt = s.evt := rfl
@[simp] theorem State.avgThr_rsp (s : State) : (s.avgThr).rsp = s.rsp := rfl
@[simp] theorem State.avgThr_cmds (s : State) : (s.avgThr).cmds = s.cmds := rfl
@[simp] theorem State.avgThr_work (s : State) : (s.avgThr).work = { s.work with thr := s.cfg.num.tf s.avg s.cfg.threshFraction } := rfl

/-! ### State.dcSub -/

@[simp] theorem State.dcSub_cfg (s : State) (z : IQ) : (s.dcSub z).cfg = s.cfg := rfl
@[simp] theorem State.dcSub_avg (s : State) (z : IQ) : (s.dcSub z).avg = s.avg := rfl
@[simp] theorem State.dcSub_wi (s : State) (z : IQ) : (s.dcSub z).wi = s.wi := rfl
@[simp] theorem State.dcSub_win (s : State) (z : IQ) : (s.dcSub z).win = s.win := rfl
@[simp] theorem State.dcSub_dc (s : State) (z : IQ) : (s.dcSub z).dc = s.dc := rfl
@[simp] theorem State.dcSub_di (s : State) (z : IQ) : (s.dcSub z).di = s.di := rfl
@[simp] theorem State.dcSub_dcw (s : State) (z : IQ) : (s.dcSub z).dcw = s.dcw := rfl
@[simp] theorem State.dcSub_n (s : State) (z : IQ) : (s.dcSub z).n = s.n := rfl
@[simp] theorem State.dcSub_p (s : State) (z : IQ) : (s.dcSub z).p = s.p := rfl
@[simp] theorem State.dcSub_edge (s : State) (z : IQ) : (s.dcSub z).edge = s.edge := rfl
@[simp] theorem State.dcSub_gate (s : State) (z : IQ) : (s.dcSub z).gate = s.gate := rfl
@[simp] theorem State.dcSub_fwdLen (s : State) (z : IQ) : (s.dcSub z).fwdLen = s.fwdLen := rfl
@[simp] theorem State.dcSub_status (s : State) (z : IQ) : (s.dcSub z).status = s.status := rfl
@[simp] theorem State.dcSub_nq (s : State) (z : IQ) : (s.dcSub z).nq = s.nq := rfl
@[simp] theorem State.dcSub_ntags (s : State) (z : IQ) : (s.dcSub z).ntags = s.ntags := rfl
@[simp] theorem State.dcSub_tsStart (s : State) (z : IQ) : (s.dcSub z).tsStart = s.tsStart := rfl
@[simp] theorem State.dcSub_tsEnd (s : State) (z : IQ) : (s.dcSub z).tsEnd = s.tsEnd := rfl
@[simp] theorem State.dcSub_msq (s : State) (z : IQ) : (s.dcSub z).msq = s.msq := rfl
@[simp] theorem State.dcSub_phase (s : State) (z : IQ) : (s.dcSub z).phase = s.phase := rfl
@[simp] theorem State.dcSub_consumed (s : State) (z : IQ) : (s.dcSub z).consumed = s.consumed := rfl
@[simp] theorem State.dcSub_written (s : State) (z : IQ) : (s.dcSub z).written = s.written := rfl
@[simp] theorem State.dcSub_out (s : State) (z : IQ) : (s.dcSub z).out = s.out := rfl
@[simp] theorem State.dcSub_evt (s : State) (z : IQ) : (s.dcSub z).evt = s.evt := rfl
@[simp] theorem State.dcSub_rsp (s : State) (z : IQ) : (s.dcSub z).rsp = s.rsp := rfl
@[simp] theorem State.dcSub_cmds (s : State) (z : IQ) : (s.dcSub z).cmds = s.cmds := rfl
@[simp] theorem State.dcSub_work (s : State) (z : IQ) : (s.dcSub z).work = { s.work with y := s.cfg.num.csub z s.dc } := rfl

/-! ### State.msqVal -/

@[simp] theorem State.msqVal_cfg (s : State) : (s.msqVal).cfg = s.cfg := rfl
@[simp] theorem State.msqVal_avg (s : State) : (s.msqVal).avg = s.avg := rfl
@[simp] theorem State.msqVal_wi (s : State) : (s.msqVal).wi = s.wi := rfl
@[simp] theorem State.msqVal_win (s : State) : (s.msqVal).win = s.win := rfl
@[simp] theorem State.msqVal_dc (s : State) : (s.msqVal).dc = s.dc := rfl
@[simp] theorem State.msqVal_di (s : State) : (s.msqVal).di = s.di := rfl
@[simp] theorem State.msqVal_dcw (s : State) : (s.msqVal).dcw = s.dcw := rfl
@[simp] theorem State.msqVal_n (s : State) : (s.msqVal).n = s.n := rfl
@[simp] theorem State.msqVal_p (s : State) : (s.msqVal).p = s.p := rfl
@[simp] theorem State.msqVal_edge (s : State) : (s.msqVal).edge = s.edge := rfl
@[simp] theorem State.msqVal_gate (s : State) : (s.msqVal).gate = s.gate := rfl
@[simp] theorem State.msqVal_fwdLen (s : State) : (s.msqVal).fwdLen = s.fwdLen := rfl
@[simp] theorem State.msqVal_status (s : State) : (s.msqVal).status = s.status := rfl
@[simp] theorem State.msqVal_nq (s : State) : (s.msqVal).nq = s.nq := rfl
@[simp] theorem State.msqVal_ntags (s : State) : (s.msqVal).ntags = s.ntags := rfl
@[simp] theorem State.msqVal_tsStart (s : State) : (s.msqVal).tsStart = s.tsStart := rfl
@[simp] theorem State.msqVal_tsEnd (s : State) : (s.msqVal).tsEnd = s.tsEnd := rfl
@[simp] theorem State.msqVal_msq (s : State) : (s.msqVal).msq = s.msq := rfl
@[simp] theorem State.msqVal_phase (s : State) : (s.msqVal).phase = s.phase := rfl
@[simp] theorem State.msqVal_consumed (s : State) : (s.msqVal).consumed = s.consumed := rfl
@[simp] theorem State.msqVal_written (s : State) : (s.msqVal).written = s.written := rfl
@[simp] theorem State.msqVal_out (s : State) : (s.msqVal).out = s.out := rfl
@[simp] theorem State.msqVal_evt (s : State) : (s.msqVal).evt = s.evt := rfl
@[simp] theorem State.msqVal_rsp (s : State) : (s.msqVal).rsp = s.rsp := rfl
@[simp] theorem State.msqVal_cmds (s : State) : (s.msqVal).cmds = s.cmds := rfl
@[simp] theorem State.msqVal_work (s : State) : (s.msqVal).work = { s.work with sq := s.cfg.num.msq s.work.y } := rfl

/-! ### State.nInc -/

@[simp] theorem State.nInc_cfg (s : State) : (s.nInc).cfg = s.cfg := rfl
@[simp] theorem State.nInc_avg (s : State) : (s.nInc).avg = s.avg := rfl
@[simp] theorem State.nInc_wi (s : State) : (s.nInc).wi = s.wi := rfl
@[simp] theorem State.nInc_win (s : State) : (s.nInc).win = s.win := rfl
@[simp] theorem State.nInc_dc (s : State) : (s.nInc).dc = s.dc := rfl
@[simp] theorem State.nInc_di (s : State) : (s.nInc).di = s.di := rfl
@[simp] theorem State.nInc_dcw (s : State) : (s.nInc).dcw = s.dcw := rfl
@[simp] theorem State.nInc_n (s : State) : (s.nInc).n = satInc s.n := rfl
@[simp] theorem State.nInc_p (s : State) : (s.nInc).p = s.p := rfl
@[simp] theorem State.nInc_edge (s : State) : (s.nInc).edge = s.edge := rfl
@[simp] theorem State.nInc_gate (s : State) : (s.nInc).gate = s.gate := rfl
@[simp] theorem State.nInc_fwdLen (s : State) : (s.nInc).fwdLen = s.fwdLen := rfl
@[simp] theorem State.nInc_status (s : State) : (s.nInc).status = s.status := rfl
@[simp] theorem State.nInc_nq (s : State) : (s.nInc).nq = s.nq := rfl
@[simp] theorem State.nInc_ntags (s : State) : (s.nInc).ntags = s.ntags := rfl
@[simp] theorem State.nInc_tsStart (s : State) : (s.nInc).tsStart = s.tsStart := rfl
@[simp] theorem State.nInc_tsEnd (s : State) : (s.nInc).tsEnd = s.tsEnd := rfl
@[simp] theorem State.nInc_msq (s : State) : (s.nInc).msq = s.msq := rfl
@[simp] theorem State.nInc_phase (s : State) : (s.nInc).phase = s.phase := rfl
@[simp] theorem State.nInc_consumed (s : State) : (s.nInc).consumed = s.consumed := rfl
@[simp] theorem State.nInc_written (s : State) : (s.nInc).written = s.written := rfl
@[simp] theorem State.nInc_out (s : State) : (s.nInc).out = s.out := rfl
@[simp] theorem State.nInc_evt (s : State) : (s.nInc).evt = s.evt := rfl
@[simp] theorem State.nInc_rsp (s : State) : (s.nInc).rsp = s.rsp := rfl
@[simp] theorem State.nInc_cmds (s : State) : (s.nInc).cmds = s.cmds := rfl
@[simp] theorem State.nInc_work (s : State) : (s.nInc).work = s.work := rfl

/-! ### State.gateOpen -/

@[simp] theorem State.gateOpen_cfg (s : State) : (s.gateOpen).cfg = s.cfg := rfl
@[simp] theorem State.gateOpen_avg (s : State) : (s.gateOpen).avg = s.avg := rfl
@[simp] theorem State.gateOpen_wi (s : State) : (s.gateOpen).wi = s.wi := rfl
@[simp] theorem State.gateOpen_win (s : State) : (s.gateOpen).win = s.win := rfl
@[simp] theorem State.gateOpen_dc (s : State) : (s.gateOpen).dc = s.dc := rfl
@[simp] theorem State.gateOpen_di (s : State) : (s.gateOpen).di = s.di := rfl
@[simp] theorem State.gateOpen_dcw (s : State) : (s.gateOpen).dcw = s.dcw := rfl
@[simp] theorem State.gateOpen_n (s : State) : (s.gateOpen).n = 1 := rfl
@[simp] theorem State.gateOpen_p (s : State) : (s.gateOpen).p = s.p := rfl
@[simp] theorem State.gateOpen_edge (s : State) : (s.gateOpen).edge = s.edge := rfl
@[simp] theorem State.gateOpen_gate (s : State) : (s.gateOpen).gate = .opened := rfl
@[simp] theorem State.gateOpen_fwdLen (s : State) : (s.gateOpen).fwdLen = s.fwdLen := rfl
@[simp] theorem State.gateOpen_status (s : State) : (s.gateOpen).status = s.status := rfl
@[simp] theorem State.gateOpen_nq (s : State) : (s.gateOpen).nq = s.nq := rfl
@[simp] theorem State.gateOpen_ntags (s : State) : (s.gateOpen).ntags = s.ntags := rfl
@[simp] theorem State.gateOpen_tsStart (s : State) : (s.gateOpen).tsStart = s.tsStart := rfl
@[simp] theorem State.gateOpen_tsEnd (s : State) : (s.gateOpen).tsEnd = s.tsEnd := rfl
@[simp] theorem State.gateOpen_msq (s : State) : (s.gateOpen).msq = s.msq := rfl
@[simp] theorem State.gateOpen_phase (s : State) : (s.gateOpen).phase = s.phase := rfl
@[simp] theorem State.gateOpen_consumed (s : State) : (s.gateOpen).consumed = s.consumed := rfl
@[simp] theorem State.gateOpen_written (s : State) : (s.gateOpen).written = s.written := rfl
@[simp] theorem State.gateOpen_out (s : State) : (s.gateOpen).out = s.out := rfl
@[simp] theorem State.gateOpen_evt (s : State) : (s.gateOpen).evt = s.evt := rfl
@[simp] theorem State.gateOpen_rsp (s : State) : (s.gateOpen).rsp = s.rsp := rfl
@[simp] theorem State.gateOpen_cmds (s : State) : (s.gateOpen).cmds = s.cmds := rfl
@[simp] theorem State.gateOpen_work (s : State) : (s.gateOpen).work = s.work := rfl

/-! ### State.armed -/

@[simp] theorem State.armed_cfg (s : State) (len : Nat) : (s.armed len).cfg = s.cfg := rfl
@[simp] theorem State.armed_avg (s : State) (len : Nat) : (s.armed len).avg = s.avg := rfl
@[simp] theorem State.armed_wi (s : State) (len : Nat) : (s.armed len).wi = s.wi := rfl
@[simp] theorem State.armed_win (s : State) (len : Nat) : (s.armed len).win = s.win := rfl
@[simp] theorem State.armed_dc (s : State) (len : Nat) : (s.armed len).dc = s.dc := rfl
@[simp] theorem State.armed_di (s : State) (len : Nat) : (s.armed len).di = s.di := rfl
@[simp] theorem State.armed_dcw (s : State) (len : Nat) : (s.armed len).dcw = s.dcw := rfl
@[simp] theorem State.armed_n (s : State) (len : Nat) : (s.armed len).n = 0 := rfl
@[simp] theorem State.armed_p (s : State) (len : Nat) : (s.armed len).p = s.p := rfl
@[simp] theorem State.armed_edge (s : State) (len : Nat) : (s.armed len).edge = s.edge := rfl
@[simp] theorem State.armed_gate (s : State) (len : Nat) : (s.armed len).gate = .closed := rfl
@[simp] theorem State.armed_fwdLen (s : State) (len : Nat) : (s.armed len).fwdLen = regWord len := rfl
@[simp] theorem State.armed_status (s : State) (len : Nat) : (s.armed len).status = s.status := rfl
@[simp] theorem State.armed_nq (s : State) (len : Nat) : (s.armed len).nq = s.nq := rfl
@[simp] theorem State.armed_ntags (s : State) (len : Nat) : (s.armed len).ntags = s.ntags := rfl
@[simp] theorem State.armed_tsStart (s : State) (len : Nat) : (s.armed len).tsStart = s.tsStart := rfl
@[simp] theorem State.armed_tsEnd (s : State) (len : Nat) : (s.armed len).tsEnd = s.tsEnd := rfl
@[simp] theorem State.armed_msq (s : State) (len : Nat) : (s.armed len).msq = s.msq := rfl
@[simp] theorem State.armed_phase (s : State) (len : Nat) : (s.armed len).phase = s.phase := rfl
@[simp] theorem State.armed_consumed (s : State) (len : Nat) : (s.armed len).consumed = s.consumed := rfl
@[simp] theorem State.armed_written (s : State) (len : Nat) : (s.armed len).written = s.written := rfl
@[simp] theorem State.armed_out (s : State) (len : Nat) : (s.armed len).out = s.out := rfl
@[simp] theorem State.armed_evt (s : State) (len : Nat) : (s.armed len).evt = s.evt := rfl
@[simp] theorem State.armed_rsp (s : State) (len : Nat) : (s.armed len).rsp = s.rsp := rfl
@[simp] theorem State.armed_cmds (s : State) (len : Nat) : (s.armed len).cmds = s.cmds := rfl
@[simp] theorem State.armed_work (s : State) (len : Nat) : (s.armed len).work = s.work := rfl

/-! ### State.startInvocation -/

@[simp] theorem State.startInvocation_cfg (s : State) : (s.startInvocation).cfg = s.cfg := rfl
@[simp] theorem State.startInvocation_avg (s : State) : (s.startInvocation).avg = s.avg := rfl
@[simp] theorem State.startInvocation_wi (s : State) : (s.startInvocation).wi = s.wi := rfl
@[simp] theorem State.startInvocation_win (s : State) : (s.startInvocation).win = s.win := rfl
@[simp] theorem State.startInvocation_dc (s : State) : (s.startInvocation).dc = s.dc := rfl
@[simp] theorem State.startInvocation_di (s : State) : (s.startInvocation).di = s.di := rfl
@[simp] theorem State.startInvocation_dcw (s : State) : (s.startInvocation).dcw = s.dcw := rfl
@[simp] theorem State.startInvocation_n (s : State) : (s.startInvocation).n = s.n := rfl
@[simp] theorem State.startInvocation_p (s : State) : (s.startInvocation).p = s.p := rfl
@[simp] theorem State.startInvocation_edge (s : State) : (s.startInvocation).edge = s.edge := rfl
@[simp] theorem State.startInvocation_gate (s : State) : (s.startInvocation).gate = s.gate := rfl
@[simp] theorem State.startInvocation_fwdLen (s : State) : (s.startInvocation).fwdLen = s.fwdLen := rfl
@[simp] theorem State.startInvocation_status (s : State) : (s.startInvocation).status = s.status := rfl
@[simp] theorem State.startInvocation_nq (s : State) : (s.startInvocation).nq = s.nq := rfl
@[simp] theorem State.startInvocation_ntags (s : State) : (s.startInvocation).ntags = s.ntags := rfl
@[simp] theorem State.startInvocation_tsStart (s : State) : (s.startInvocation).tsStart = s.tsStart := rfl
@[simp] theorem State.startInvocation_tsEnd (s : State) : (s.startInvocation).tsEnd = s.tsEnd := rfl
@[simp] theorem State.startInvocation_msq (s : State) : (s.startInvocation).msq = s.msq := rfl
@[simp] theorem State.startInvocation_phase (s : State) : (s.startInvocation).phase = .run := rfl
@[simp] theorem State.startInvocation_consumed (s : State) : (s.startInvocation).consumed = 0 := rfl
@[simp] theorem State.startInvocation_written (s : State) : (s.startInvocation).written = 0 := rfl
@[simp] theorem State.startInvocation_out (s : State) : (s.startInvocation).out = s.out := rfl
@[simp] theorem State.startInvocation_evt (s : State) : (s.startInvocation).evt = s.evt := rfl
@[simp] theorem State.startInvocation_rsp (s : State) : (s.startInvocation).rsp = s.rsp := rfl
@[simp] theorem State.startInvocation_cmds (s : State) : (s.startInvocation).cmds = s.cmds := rfl
@[simp] theorem State.startInvocation_work (s : State) : (s.startInvocation).work = s.work := rfl

/-! ### State.consume -/

@[simp] theorem State.consume_cfg (s : State) : (s.consume).cfg = s.cfg := rfl
@[simp] theorem State.consume_avg (s : State) : (s.consume).avg = s.avg := rfl
@[simp] theorem State.consume_wi (s : State) : (s.consume).wi = s.wi := rfl
@[simp] theorem State.consume_win (s : State) : (s.consume).win = s.win := rfl
@[simp] theorem State.consume_dc (s : State) : (s.consume).dc = s.dc := rfl
@[simp] theorem State.consume_di (s : State) : (s.consume).di = s.di := rfl
@[simp] theorem State.consume_dcw (s : State) : (s.consume).dcw = s.dcw := rfl
@[simp] theorem State.consume_n (s : State) : (s.consume).n = s.n := rfl
@[simp] theorem State.consume_p (s : State) : (s.consume).p = s.p := rfl
@[simp] theorem State.consume_edge (s : State) : (s.consume).edge = s.edge := rfl
@[simp] theorem State.consume_gate (s : State) : (s.consume).gate = s.gate := rfl
@[simp] theorem State.consume_fwdLen (s : State) : (s.consume).fwdLen = s.fwdLen := rfl
@[simp] theorem State.consume_status (s : State) : (s.consume).status = s.status := rfl
@[simp] theorem State.consume_nq (s : State) : (s.consume).nq = s.nq := rfl
@[simp] theorem State.consume_ntags (s : State) : (s.consume).ntags = s.ntags := rfl
@[simp] theorem State.consume_tsStart (s : State) : (s.consume).tsStart = s.tsStart := rfl
@[simp] theorem State.consume_tsEnd (s : State) : (s.consume).tsEnd = s.tsEnd := rfl
@[simp] theorem State.consume_msq (s : State) : (s.consume).msq = s.msq := rfl
@[simp] theorem State.consume_phase (s : State) : (s.consume).phase = s.phase := rfl
@[simp] theorem State.consume_consumed (s : State) : (s.consume).consumed = s.consumed + 1 := rfl
@[simp] theorem State.consume_written (s : State) : (s.consume).written = s.written := rfl
@[simp] theorem State.consume_out (s : State) : (s.consume).out = s.out := rfl
@[simp] theorem State.consume_evt (s : State) : (s.consume).evt = s.evt := rfl
@[simp] theorem State.consume_rsp (s : State) : (s.consume).rsp = s.rsp := rfl
@[simp] theorem State.consume_cmds (s : State) : (s.consume).cmds = s.cmds := rfl
@[simp] theorem State.consume_work (s : State) : (s.consume).work = s.work := rfl

/-! ### State.clearWork -/

@[simp] theorem State.clearWork_cfg (s : State) : (s.clearWork).cfg = s.cfg := rfl
@[simp] theorem State.clearWork_avg (s : State) : (s.clearWork).avg = s.avg := rfl
@[simp] theorem State.clearWork_wi (s : State) : (s.clearWork).wi = s.wi := rfl
@[simp] theorem State.clearWork_win (s : State) : (s.clearWork).win = s.win := rfl
@[simp] theorem State.clearWork_dc (s : State) : (s.clearWork).dc = s.dc := rfl
@[simp] theorem State.clearWork_di (s : State) : (s.clearWork).di = s.di := rfl
@[simp] theorem State.clearWork_dcw (s : State) : (s.clearWork).dcw = s.dcw := rfl
@[simp] theorem State.clearWork_n (s : State) : (s.clearWork).n = s.n := rfl
@[simp] theorem State.clearWork_p (s : State) : (s.clearWork).p = s.p := rfl
@[simp] theorem State.clearWork_edge (s : State) : (s.clearWork).edge = s.edge := rfl
@[simp] theorem State.clearWork_gate (s : State) : (s.clearWork).gate = s.gate := rfl
@[simp] theorem State.clearWork_fwdLen (s : State) : (s.clearWork).fwdLen = s.fwdLen := rfl
@[simp] theorem State.clearWork_status (s : State) : (s.clearWork).status = s.status := rfl
@[simp] theorem State.clearWork_nq (s : State) : (s.clearWork).nq = s.nq := rfl
@[simp] theorem State.clearWork_ntags (s : State) : (s.clearWork).ntags = s.ntags := rfl
@[simp] theorem State.clearWork_tsStart (s : State) : (s.clearWork).tsStart = s.tsStart := rfl
@[simp] theorem State.clearWork_tsEnd (s : State) : (s.clearWork).tsEnd = s.tsEnd := rfl
@[simp] theorem State.clearWork_msq (s : State) : (s.clearWork).msq = s.msq := rfl
@[simp] theorem State.clearWork_phase (s : State) : (s.clearWork).phase = s.phase := rfl
@[simp] theorem State.clearWork_consumed (s : State) : (s.clearWork).consumed = s.consumed := rfl
@[simp] theorem State.clearWork_written (s : State) : (s.clearWork).written = s.written := rfl
@[simp] theorem State.clearWork_out (s : State) : (s.clearWork).out = s.out := rfl
@[simp] theorem State.clearWork_evt (s : State) : (s.clearWork).evt = s.evt := rfl
@[simp] theorem State.clearWork_rsp (s : State) : (s.clearWork).rsp = s.rsp := rfl
@[simp] theorem State.clearWork_cmds (s : State) : (s.clearWork).cmds = s.cmds := rfl
@[simp] theorem State.clearWork_work (s : State) : (s.clearWork).work = .clear := rfl

/-! ### State.issueFirst -/

@[simp] theorem State.issueFirst_cfg (s : State) (w : Nat) : (s.issueFirst w).cfg = s.cfg := rfl
@[simp] theorem State.issueFirst_avg (s : State) (w : Nat) : (s.issueFirst w).avg = s.avg := rfl
@[simp] theorem State.issueFirst_wi (s : State) (w : Nat) : (s.issueFirst w).wi = s.wi := rfl
@[simp] theorem State.issueFirst_win (s : State) (w : Nat) : (s.issueFirst w).win = s.win := rfl
@[simp] theorem State.issueFirst_dc (s : State) (w : Nat) : (s.issueFirst w).dc = s.dc := rfl
@[simp] theorem State.issueFirst_di (s : State) (w : Nat) : (s.issueFirst w).di = s.di := rfl
@[simp] theorem State.issueFirst_dcw (s : State) (w : Nat) : (s.issueFirst w).dcw = s.dcw := rfl
@[simp] theorem State.issueFirst_n (s : State) (w : Nat) : (s.issueFirst w).n = s.n := rfl
@[simp] theorem State.issueFirst_p (s : State) (w : Nat) : (s.issueFirst w).p = s.p := rfl
@[simp] theorem State.issueFirst_edge (s : State) (w : Nat) : (s.issueFirst w).edge = s.edge := rfl
@[simp] theorem State.issueFirst_gate (s : State) (w : Nat) : (s.issueFirst w).gate = s.gate := rfl
@[simp] theorem State.issueFirst_fwdLen (s : State) (w : Nat) : (s.issueFirst w).fwdLen = s.fwdLen := rfl
@[simp] theorem State.issueFirst_status (s : State) (w : Nat) : (s.issueFirst w).status = s.status := rfl
@[simp] theorem State.issueFirst_nq (s : State) (w : Nat) : (s.issueFirst w).nq = s.nq := rfl
@[simp] theorem State.issueFirst_ntags (s : State) (w : Nat) : (s.issueFirst w).ntags = s.ntags := rfl
@[simp] theorem State.issueFirst_tsStart (s : State) (w : Nat) : (s.issueFirst w).tsStart = s.tsStart := rfl
@[simp] theorem State.issueFirst_tsEnd (s : State) (w : Nat) : (s.issueFirst w).tsEnd = s.tsEnd := rfl
@[simp] theorem State.issueFirst_msq (s : State) (w : Nat) : (s.issueFirst w).msq = s.msq := rfl
@[simp] theorem State.issueFirst_phase (s : State) (w : Nat) : (s.issueFirst w).phase = s.phase := rfl
@[simp] theorem State.issueFirst_consumed (s : State) (w : Nat) : (s.issueFirst w).consumed = s.consumed := rfl
@[simp] theorem State.issueFirst_written (s : State) (w : Nat) : (s.issueFirst w).written = s.written := rfl
@[simp] theorem State.issueFirst_out (s : State) (w : Nat) : (s.issueFirst w).out = s.out := rfl
@[simp] theorem State.issueFirst_evt (s : State) (w : Nat) : (s.issueFirst w).evt = s.evt := rfl
@[simp] theorem State.issueFirst_rsp (s : State) (w : Nat) : (s.issueFirst w).rsp = s.rsp := rfl
@[simp] theorem State.issueFirst_cmds (s : State) (w : Nat) : (s.issueFirst w).cmds = w :: s.cmds := rfl
@[simp] theorem State.issueFirst_work (s : State) (w : Nat) : (s.issueFirst w).work = s.work := rfl

end Sys2Proof.Machine
end

