-- ==== Sys2Proof/Laws/Ops.lean ====
section
/-! SUPPORT. For each shared operation, one lemma that says everything it can do. -/

namespace Sys2Proof.Machine

/-! ### Saturating counters -/

theorem satInc_of_lt {n : Nat} (h : n < 2 ^ 32 - 1) : satInc n = n + 1 := if_pos h

theorem satInc_of_le {n : Nat} (h : 2 ^ 32 - 1 ≤ n) : satInc n = n :=
  if_neg (Nat.not_lt.mpr h)

theorem satInc_le_cntMax {n : Nat} (h : n ≤ cntMax) : satInc n ≤ cntMax := by
  unfold satInc; split <;> omega

/-! ### Conditions as propositions -/

@[simp] theorem State.falls_iff (s : State) :
    s.falls = true ↔ s.edge = .rising ∧ s.cfg.num.lt s.work.m s.work.thr = true := by
  simp [State.falls, State.belowThr]

@[simp] theorem State.rises_iff (s : State) :
    s.rises = true ↔ s.edge = .falling ∧ s.cfg.num.lt s.work.thr s.work.m = true := by
  simp [State.rises, State.aboveThr]

@[simp] theorem State.validPulse_iff (s : State) : s.validPulse = true ↔ s.cfg.pw / 2 < s.n := by
  simp [State.validPulse]

@[simp] theorem State.detects_iff (s : State) :
    s.detects = true ↔ s.edge = .rising ∧ s.cfg.t1 < s.n ∧ s.cfg.minPulses < s.p := by
  simp [State.detects, and_assoc]

@[simp] theorem State.windowDone_iff (s : State) : s.windowDone = true ↔ s.fwdLen.toNat ≤ s.n := by
  simp [State.windowDone]

@[simp] theorem State.terminates_iff (s : State) :
    s.terminates = true ↔
      (s.cfg.maxQueries < s.nq.toNat ∨ s.cfg.tagTarget < s.ntags.toNat) ∧ s.status ≠ .terminated := by
  simp [State.terminates]

@[simp] theorem State.drains_iff (s : State) :
    s.drains = true ↔ s.cfg.termPolicy = .drain ∧ s.status = .terminated := by
  simp [State.drains]

/-! ### Registers on the port -/

theorem regWord_of_lt {n : Nat} (h : n < 2 ^ 32) : regWord n = BitVec.ofNat 32 n := if_pos h

theorem regWord_toNat {n : Nat} (h : n < 2 ^ 32) : (regWord n).toNat = n := by
  rw [regWord_of_lt h, BitVec.toNat_ofNat, Nat.mod_eq_of_lt h]

/-! ### Ring memories -/

theorem State.readWin_eq_some {s : State} {i : Nat} {v : Scalar} :
    s.readWin i = some v ↔ i < s.cfg.navg ∧ s.win[i]? = some v := by
  simp [State.readWin]

theorem State.readWin_eq_none {s : State} {i : Nat} :
    s.readWin i = none ↔ s.cfg.navg ≤ i ∨ s.win.length ≤ i := by
  simp only [State.readWin]; split <;> simp <;> omega

theorem State.readDcw_eq_some {s : State} {i : Nat} {v : IQ} :
    s.readDcw i = some v ↔ i < s.cfg.ndc ∧ s.dcw[i]? = some v := by
  simp [State.readDcw]

theorem State.readDcw_eq_none {s : State} {i : Nat} :
    s.readDcw i = none ↔ s.cfg.ndc ≤ i ∨ s.dcw.length ≤ i := by
  simp only [State.readDcw]; split <;> simp <;> omega

/-- AVG.UPD finds an element and replaces it, or there is none at WI. -/
theorem State.avgUpd_cases (s : State) :
    (s.avgUpd = none ∧ (s.cfg.navg ≤ s.wi ∨ s.win.length ≤ s.wi)) ∨
    ∃ old, s.wi < s.cfg.navg ∧ s.win[s.wi]? = some old ∧
      s.avgUpd = some { s with
        avg := s.cfg.num.add s.avg (s.cfg.num.divn (s.cfg.num.sub s.work.m old) s.cfg.navg)
        win := s.win.set s.wi s.work.m
        wi := (s.wi + 1) % s.cfg.navg } := by
  unfold State.avgUpd
  cases h : s.readWin s.wi with
  | none => exact .inl ⟨rfl, State.readWin_eq_none.mp h⟩
  | some old => exact .inr ⟨old, (State.readWin_eq_some.mp h).1, (State.readWin_eq_some.mp h).2, rfl⟩

theorem State.avgUpd_of_read {s : State} {old : Scalar} (hi : s.wi < s.cfg.navg) (h : s.win[s.wi]? = some old) :
    s.avgUpd = some { s with
      avg := s.cfg.num.add s.avg (s.cfg.num.divn (s.cfg.num.sub s.work.m old) s.cfg.navg)
      win := s.win.set s.wi s.work.m
      wi := (s.wi + 1) % s.cfg.navg } := by
  simp [State.avgUpd, State.readWin_eq_some.mpr ⟨hi, h⟩, State.writeWin]

/-- DC.UPD finds an element and replaces it, or there is none at DI. -/
theorem State.dcUpd_cases (s : State) (z : IQ) :
    (s.dcUpd z = none ∧ (s.cfg.ndc ≤ s.di ∨ s.dcw.length ≤ s.di)) ∨
    ∃ old, s.di < s.cfg.ndc ∧ s.dcw[s.di]? = some old ∧
      s.dcUpd z = some { s with
        dc := s.cfg.num.cadd s.dc (s.cfg.num.cdivn (s.cfg.num.csub z old) s.cfg.ndc)
        dcw := s.dcw.set s.di z
        di := (s.di + 1) % s.cfg.ndc } := by
  unfold State.dcUpd
  cases h : s.readDcw s.di with
  | none => exact .inl ⟨rfl, State.readDcw_eq_none.mp h⟩
  | some old => exact .inr ⟨old, (State.readDcw_eq_some.mp h).1, (State.readDcw_eq_some.mp h).2, rfl⟩

theorem State.dcUpd_of_read {s : State} {z old : IQ} (hi : s.di < s.cfg.ndc) (h : s.dcw[s.di]? = some old) :
    s.dcUpd z = some { s with
      dc := s.cfg.num.cadd s.dc (s.cfg.num.cdivn (s.cfg.num.csub z old) s.cfg.ndc)
      dcw := s.dcw.set s.di z
      di := (s.di + 1) % s.cfg.ndc } := by
  simp [State.dcUpd, State.readDcw_eq_some.mpr ⟨hi, h⟩, State.writeDcw]

/-! ### Edge detector -/

/-- The edge transition of a step writes EDGE, N and P and nothing else. -/
theorem State.edgeStep_eq (s : State) :
    s.edgeStep = { s with
      edge := if s.falls then .falling else if s.rises then .rising else s.edge
      n := if s.falls || s.rises then 0 else s.n
      p := if s.rises then (if s.validPulse then satInc s.p else 0) else s.p } := by
  cases he : s.edge
  · have hf : s.falls = false := by simp [State.falls, he]
    cases hr : s.rises <;> simp [State.edgeStep, he, State.edgeRise, hr, hf]
    all_goals rw [← he]
  · have hr : s.rises = false := by simp [State.rises, he]
    cases hf : s.falls <;> simp [State.edgeStep, he, State.edgeFall, hr, hf]
    all_goals rw [← he]

/-- The edge transition of a step: a falling edge, a rising edge, or none (R177, R178, R179). -/
theorem State.edgeStep_cases (s : State) :
    (s.falls = true ∧ s.edgeStep = { s with edge := .falling, n := 0 }) ∨
    (s.rises = true ∧ s.edgeStep = { s with
      edge := .rising, n := 0, p := if s.validPulse then satInc s.p else 0 }) ∨
    (s.falls = false ∧ s.rises = false ∧ s.edgeStep = s) := by
  rw [State.edgeStep_eq]
  rcases Bool.eq_false_or_eq_true s.falls with hf | hf
  · have hr : s.rises = false := by
      rw [← Bool.not_eq_true, State.rises_iff]; rw [State.falls_iff] at hf; simp [hf.1]
    simp [hf, hr]
  · rcases Bool.eq_false_or_eq_true s.rises with hr | hr <;> simp [hf, hr]

/-- The side effects of DET.FIRE. -/
theorem State.fire_eq (s : State) :
    s.fire = { s with
      msq := if s.cfg.triggerAppendsMsq then [s.cfg.num.msq s.work.y] else []
      out := s.out ++ [s.work.y], written := s.written + 1, p := 0, n := 1, gate := .opened
      evt := s.evt ++ [.evOpen]
      work := if s.cfg.triggerAppendsMsq then { s.work with sq := s.cfg.num.msq s.work.y } else s.work } := by
  cases h : s.cfg.triggerAppendsMsq <;>
    simp [State.fire, State.triggerMsq, h, State.gateOpen, State.msqClear, State.outPut, State.msqVal, State.msqAppend]

/-- DET.FIRE writes its side effects with the corrected sample, if the command-detected condition holds. -/
theorem State.detFire_eq (s : State) (z : IQ) :
    s.detFire z = if s.detects then (s.dcSub z).fire else s := rfl

/-- The end of path (a): detection, the count, the response, and no value of the step left. -/
theorem State.closedPathEnd_eq (s : State) (z : IQ) :
    s.closedPathEnd z = { s with
      msq := if s.detects then (if s.cfg.triggerAppendsMsq then [s.cfg.num.msq (s.cfg.num.csub z s.dc)] else [])
        else s.msq
      out := if s.detects then s.out ++ [s.cfg.num.csub z s.dc] else s.out
      written := if s.detects then s.written + 1 else s.written
      p := if s.detects then 0 else s.p
      n := if s.detects then 1 else s.n
      gate := if s.detects then .opened else s.gate
      evt := if s.detects then s.evt ++ [.evOpen] else s.evt
      consumed := s.consumed + 1
      rsp := if s.detects then ⟨.ok, .sample (s.cfg.num.csub z s.dc)⟩ else ⟨.ok, .empty⟩
      work := .clear } := by
  cases h : s.detects
  · simp [State.closedPathEnd, h, State.consume, State.finish, State.respond, State.clearWork, Response.plain]
  · cases ht : s.cfg.triggerAppendsMsq <;>
      simp [State.closedPathEnd, State.detFire, h, ht, State.fire_eq, State.dcSub, State.consume, State.finish,
        State.respond, State.clearWork]

/-! ### Gate controller -/

/-- GATE.FWD. -/
theorem State.gateFwd_eq (s : State) (z : IQ) :
    s.gateFwd z = { s with
      out := s.out ++ [s.cfg.num.csub z s.dc], written := s.written + 1
      msq := s.msq ++ [s.cfg.num.msq (s.cfg.num.csub z s.dc)], n := satInc s.n
      work := { s.work with y := s.cfg.num.csub z s.dc, sq := s.cfg.num.msq (s.cfg.num.csub z s.dc) } } := by
  simp [State.gateFwd, State.nInc, State.msqAppend, State.msqVal, State.outPut, State.dcSub]

/-- GATE.CLOSE writes GATE, PHASE and EVT, if the window is complete. -/
theorem State.gateClose_eq (s : State) :
    s.gateClose = { s with
      gate := if s.windowDone then .closed else s.gate
      phase := if s.windowDone then .stop else s.phase
      evt := if s.windowDone then s.evt ++ [.evClose] else s.evt } := by
  cases h : s.windowDone <;> simp [State.gateClose, h]

/-- GATE.ARM writes FWD_LEN, GATE and N, if there is a request. -/
theorem State.gateArm_eq (s : State) :
    s.gateArm = { s with
      fwdLen := match s.gate with
        | .seekEpc => regWord s.cfg.lEpc
        | .seekRn16 => regWord s.cfg.lRn16
        | .closed => s.fwdLen
        | .opened => s.fwdLen
      gate := match s.gate with
        | .opened => .opened
        | .closed => .closed
        | .seekEpc => .closed
        | .seekRn16 => .closed
      n := match s.gate with
        | .seekEpc => 0
        | .seekRn16 => 0
        | .closed => s.n
        | .opened => s.n } := by
  cases h : s.gate <;> simp [State.gateArm, h, State.armed]
  all_goals rw [← h]

/-- TERM.CHK writes STATUS, TS_END and EVT, if its condition holds. -/
theorem State.termChk_eq (s : State) (now : Word32) :
    s.termChk now = { s with
      status := if s.terminates then .terminated else s.status
      tsEnd := if s.terminates then now else s.tsEnd
      evt := if s.terminates then s.evt ++ [.evTerminated (now - s.tsStart)] else s.evt } := by
  cases h : s.terminates <;> simp [State.termChk, h]

end Sys2Proof.Machine
end

