-- ==== Sys2Proof/Laws/Exec.lean ====
section
/-! SUPPORT. Which branch a command with a PHASE test takes, and what construction's checks amount to. -/

namespace Sys2Proof.Machine

theorem execBegin_idle {s : State} (now : Word32) (h : s.phase = .idle) :
    execBegin now s = .next (((s.termChk now).gateArm.startInvocation).respond (.plain .ok)) := by
  unfold execBegin; rw [h]

theorem execBegin_busy {s : State} (now : Word32) (h : s.phase ≠ .idle) : execBegin now s = raise .errPhase s := by
  unfold execBegin; cases hp : s.phase <;> first | rfl | exact absurd hp h

theorem execSample_idle {s : State} (i q : Scalar) (h : s.phase = .idle) : execSample i q s = raise .errPhase s := by
  unfold execSample; rw [h]

theorem execSample_stop {s : State} (i q : Scalar) (h : s.phase = .stop) :
    execSample i q s = .next (s.respond (.plain .stopped)) := by
  unfold execSample; rw [h]

theorem execSample_drain {s : State} (i q : Scalar) (h : s.phase = .run) (hd : s.drains = true) :
    execSample i q s = .next (s.consume.respond (.plain .ok)) := by
  unfold execSample; rw [h]; exact if_pos hd

theorem execSample_run {s : State} (i q : Scalar) (h : s.phase = .run) (hd : s.drains = false) :
    execSample i q s = s.process ⟨i, q⟩ := by
  unfold execSample; rw [h]; exact if_neg (by simp [hd])

theorem execEnd_idle {s : State} (h : s.phase = .idle) : execEnd s = raise .errPhase s := by
  unfold execEnd; rw [h]

theorem execEnd_busy {s : State} (h : s.phase ≠ .idle) :
    execEnd s = .next ({ s with phase := .idle }.respond ⟨.ok, .counts s.consumed s.written⟩) := by
  unfold execEnd; cases hp : s.phase <;> first | rfl | exact absurd hp h

theorem execCtxwr_idle {s : State} (reg : CtxReg) (data : Word32) (h : s.phase = .idle) :
    execCtxwr reg data s = ctxWrite reg data s := by
  unfold execCtxwr; rw [h]

theorem execCtxwr_busy {s : State} (reg : CtxReg) (data : Word32) (h : s.phase ≠ .idle) :
    execCtxwr reg data s = raise .errPhase s := by
  unfold execCtxwr; cases hp : s.phase <;> first | rfl | exact absurd hp h

/-- A processed sample with the gate OPEN takes path (b). -/
theorem State.process_open {s : State} (z : IQ) {t : State} (hg : s.gate = .opened) (ht : (s.mag z).avgUpd = some t) :
    s.process z = .next (t.avgThr.openPath z) := by
  unfold State.process; rw [ht]; simp only [hg]

/-- A processed sample with the gate not OPEN takes path (a). -/
theorem State.process_closed {s : State} (z : IQ) {t : State} (hg : s.gate ≠ .opened)
    (ht : (s.mag z).avgUpd = some t) : s.process z = t.avgThr.closedPath z := by
  unfold State.process; rw [ht]
  cases h : s.gate <;> first | rfl | exact absurd h hg

/-- Every command word reads as an instruction with a command word of its own. -/
theorem readCommand_isCommand (N : Numerics) (w : Nat) : (readCommand N w).isCommand = true := by
  unfold readCommand; split <;> rfl

/-- A decoded instruction is a command. -/
theorem decode_isCommand {N : Numerics} {w : Nat} {i : Instr} (h : decode N w = .ok i) : i.isCommand = true := by
  unfold decode at h
  split at h
  · cases h
  · cases h; exact readCommand_isCommand N w

/-- What a step with a next state did: nothing, with no command issued, or the oldest command (R69, R73, R307). -/
theorem step_cases {s t : State} (h : step s = .next t) :
    (s.cmds = [] ∧ t = s) ∨
    ∃ w rest i, s.cmds = w :: rest ∧ decode s.cfg.num w = .ok i ∧ i.isCommand = true ∧
      exec i { s with cmds := rest } = .next t := by
  unfold step State.nextCommand at h
  cases hc : s.cmds with
  | nil =>
    rw [hc] at h
    exact .inl ⟨rfl, ((Host.Outcome.next.injEq _ _).mp h).symm⟩
  | cons w rest =>
    rw [hc] at h
    cases hd : decode s.cfg.num w with
    | error e => simp [hd] at h
    | ok i => simp only [hd] at h; exact .inr ⟨w, rest, i, rfl, hd, decode_isCommand hd, h⟩

/-- No failure is found exactly when every test is good. -/
theorem firstFailure_eq_none {l : List (ConfigName × Bool)} : firstFailure l = none ↔ ∀ x ∈ l, x.2 = true := by
  induction l with
  | nil => simp [firstFailure]
  | cons x l ih => obtain ⟨n, b⟩ := x; cases b <;> simp [firstFailure, ih]

/-- A legal rate is read as the natural number it is (R124). -/
theorem rateOf_natCast {r : Nat} (h1 : 1 ≤ r) (h2 : r < 2 ^ 32) : rateOf (r : Rat) = some r := by
  have : ((r : Rat).den = 1 ∧ 1 ≤ (r : Rat).num ∧ (r : Rat).num < 2 ^ 32) := by
    refine ⟨by simp, ?_, ?_⟩ <;> simp <;> omega
  rw [rateOf, if_pos this]; simp

/-- check_counts passes exactly when every count is at least 1 (R123). -/
theorem countChecks_pass_iff (c : Counts) :
    firstFailure (countChecks c) = none ↔ 1 ≤ c.t1 ∧ 1 ≤ c.pw ∧ 1 ≤ c.bit ∧ 1 ≤ c.navg ∧ 1 ≤ c.ndc := by
  simp [firstFailure_eq_none, countChecks]

/-- check_other passes exactly when every condition of R126 holds. -/
theorem otherChecks_pass_iff (p : Params) (c : Config) :
    firstFailure (otherChecks p c) = none ↔
      (0 ≤ p.minPulses ∧ p.minPulses < 2 ^ 32) ∧ (0 ≤ p.preambleBits ∧ p.preambleBits < 2 ^ 32) ∧
      (0 ≤ p.epcBits ∧ p.epcBits < 2 ^ 32) ∧ (0 ≤ p.rn16Bits ∧ p.rn16Bits < 2 ^ 32) ∧
      (0 ≤ p.maxQueries ∧ p.maxQueries < 2 ^ 32) ∧ (0 ≤ p.tagTarget ∧ p.tagTarget < 2 ^ 32) ∧
      c.t1 < cntMax ∧ c.pw < cntMax ∧ c.lEpc < cntMax ∧ c.lRn16 < cntMax ∧ c.minPulses < cntMax ∧
      max (max c.lEpc c.lRn16) 2 ≤ c.msqCap := by
  simp only [firstFailure_eq_none, otherChecks, isNat32, List.forall_mem_cons, Bool.and_eq_true, decide_eq_true_eq,
    List.not_mem_nil, false_imp_iff, implies_true, and_true]

end Sys2Proof.Machine
end

