-- ==== Sys2Proof/Laws/Memory.lean ====
section
/-! SUPPORT. The memories: a read after a write, and that every memory operation keeps the form of the memories
(R23, R26, R40, R47). -/

namespace Sys2Proof.Machine

/-- The memories keep their form, as a proposition. -/
theorem Memory.wf_iff {s : State} :
    Memory.wf s = true ↔ s.win.length = s.cfg.navg ∧ s.wi < s.cfg.navg ∧ s.dcw.length = s.cfg.ndc ∧
      s.di < s.cfg.ndc ∧ s.msq.length ≤ s.cfg.msqCap := by
  simp [Memory.wf, and_assoc]

/-- Memories that have their form hold an element at each index. -/
theorem ringsReadable_of_wf {s : State} (h : Memory.wf s = true) : ∃ a b, RingsReadable s a b := by
  obtain ⟨h1, h2, h3, h4, -⟩ := Memory.wf_iff.mp h
  exact ⟨s.win[s.wi], s.dcw[s.di], h2, List.getElem?_eq_getElem (by omega), h4, List.getElem?_eq_getElem (by omega)⟩

/-! ### Read after write -/

theorem State.readWin_writeWin {s : State} {i : Nat} (v : Scalar) (hi : i < s.cfg.navg) (hl : i < s.win.length) :
    (s.writeWin i v).readWin i = some v := by
  simp [State.readWin, State.writeWin, hi, hl]

theorem State.readWin_writeWin_ne {s : State} {i j : Nat} (v : Scalar) (h : i ≠ j) :
    (s.writeWin i v).readWin j = s.readWin j := by
  simp [State.readWin, State.writeWin, List.getElem?_set_ne h]

theorem State.readDcw_writeDcw {s : State} {i : Nat} (v : IQ) (hi : i < s.cfg.ndc) (hl : i < s.dcw.length) :
    (s.writeDcw i v).readDcw i = some v := by
  simp [State.readDcw, State.writeDcw, hi, hl]

theorem State.readDcw_writeDcw_ne {s : State} {i j : Nat} (v : IQ) (h : i ≠ j) :
    (s.writeDcw i v).readDcw j = s.readDcw j := by
  simp [State.readDcw, State.writeDcw, List.getElem?_set_ne h]

/-- MSQ is append-only: the new element is the last, and no other moves (R63). -/
theorem State.msqRead_msqAppend (s : State) (v : Scalar) (k : Nat) :
    (s.msqAppend v).msqRead k = if k = s.msq.length then some v else s.msqRead k := by
  simp only [State.msqRead, State.msqAppend]
  split
  · next h => subst h; simp
  · next h =>
    rcases Nat.lt_or_ge k s.msq.length with hk | hk
    · rw [List.getElem?_append_left hk]
    · rw [List.getElem?_eq_none hk, List.getElem?_eq_none]; simp; omega

theorem State.msqRead_msqClear (s : State) (k : Nat) : s.msqClear.msqRead k = none := by
  simp [State.msqRead, State.msqClear]

/-! ### Every memory operation keeps the form -/

theorem State.writeWin_wf {s : State} (i : Nat) (v : Scalar) (h : Memory.wf s = true) :
    Memory.wf (s.writeWin i v) = true := by
  rw [Memory.wf_iff] at *; simpa [State.writeWin] using h

theorem State.writeDcw_wf {s : State} (i : Nat) (v : IQ) (h : Memory.wf s = true) :
    Memory.wf (s.writeDcw i v) = true := by
  rw [Memory.wf_iff] at *; simpa [State.writeDcw] using h

theorem State.msqClear_wf {s : State} (h : Memory.wf s = true) : Memory.wf s.msqClear = true := by
  rw [Memory.wf_iff] at *; simp only [State.msqClear, List.length_nil]; omega

/-- An append keeps the form where there is room for it; WindowOk of the invariant says that there always is. -/
theorem State.msqAppend_wf {s : State} (v : Scalar) (h : Memory.wf s = true) (hr : s.msq.length < s.cfg.msqCap) :
    Memory.wf (s.msqAppend v) = true := by
  rw [Memory.wf_iff] at *
  simp only [State.msqAppend, List.length_append, List.length_singleton]; omega

theorem State.avgUpd_wf {s t : State} (h : Memory.wf s = true) (ht : s.avgUpd = some t) : Memory.wf t = true := by
  rcases State.avgUpd_cases s with ⟨hn, -⟩ | ⟨old, hi, -, hu⟩
  · rw [hn] at ht; cases ht
  · rw [hu] at ht; cases ht
    rw [Memory.wf_iff] at *
    simp only [List.length_set]
    exact ⟨h.1, Nat.mod_lt _ (by omega), h.2.2⟩

theorem State.dcUpd_wf {s t : State} {z : IQ} (h : Memory.wf s = true) (ht : s.dcUpd z = some t) :
    Memory.wf t = true := by
  rcases State.dcUpd_cases s z with ⟨hn, -⟩ | ⟨old, hi, -, hu⟩
  · rw [hn] at ht; cases ht
  · rw [hu] at ht; cases ht
    rw [Memory.wf_iff] at *
    simp only [List.length_set]
    exact ⟨h.1, h.2.1, h.2.2.1, Nat.mod_lt _ (by omega), h.2.2.2.2⟩

/-- The memories of a new machine have their form, if both windows have a capacity of at least 1 (R123). -/
theorem State.constructed_wf {c : Config} (h1 : 1 ≤ c.navg) (h2 : 1 ≤ c.ndc) :
    Memory.wf (State.constructed c) = true := by
  rw [Memory.wf_iff]
  simp only [State.constructed, List.length_replicate, List.length_nil]
  exact ⟨trivial, h1, trivial, h2, Nat.zero_le _⟩

/-- The memories have their form at reset. -/
theorem State.reset_wf : Memory.wf State.reset = true := State.constructed_wf (by decide) (by decide)

end Sys2Proof.Machine
end

