-- ==== Sys2Proof/Laws/PerInstr.lean ====
section
/-! SUPPORT. Facts about every instruction as syntax, one lemma per constructor. The family EncodingFits: the word of a
well-formed instruction fits the command port (R91). -/

namespace Sys2Proof.Laws.EncodingFits

/-- The word of i, where it has one, is a word of CW bits. -/
def Statement (i : Instr) : Prop :=
  ∀ (N : Numerics) (w : Nat), wellFormed N i = true → encode N i = some w → w < 2 ^ commandWidth N.sw

/-- A word of 40 bits fits, whatever SW is. -/
theorem of_forty {i : Instr} (h : ∀ (N : Numerics) (w : Nat), encode N i = some w → w < 2 ^ 40) : Statement i :=
  fun N w _ e => lt_port_of_lt N.sw (h N w e)

/-- A row without a word fits trivially. -/
theorem of_none {i : Instr} (h : ∀ N, encode N i = none) : Statement i :=
  fun N w _ e => by rw [h N] at e; cases e

theorem wordC_lt {op addr data : Nat} (ho : op < 16) (ha : addr < 16) (hd : data < 2 ^ 32) :
    wordC op addr data < 2 ^ 40 := by unfold wordC; omega

theorem nop : Statement .nop := of_forty fun _ w e => by cases e; norm_num
theorem beginInv (now : Word32) : Statement (.beginInv now) := of_forty fun _ w e => by
  cases e; have := now.isLt; omega
theorem sample (i q : Scalar) : Statement (.sample i q) := fun N w _ e => by
  simp only [encode] at e
  cases hi : N.enc i with
  | none => simp [hi] at e
  | some a =>
    cases hq : N.enc q with
    | none => simp [hi, hq] at e
    | some b =>
      simp only [hi, hq, Option.some.injEq] at e
      subst e
      exact sample_word_lt (N.enc_lt hi) (N.enc_lt hq)
theorem endInv : Statement .endInv := of_forty fun _ w e => by cases e; norm_num
theorem ctxwr (r : CtxReg) (d : Word32) : Statement (.ctxwr r d) := of_forty fun _ w e => by
  cases e; exact wordC_lt (by norm_num) r.addr_lt d.isLt
theorem ctxrd (r : CtxReg) : Statement (.ctxrd r) := of_forty fun _ w e => by
  cases e; exact wordC_lt (by norm_num) r.addr_lt (by norm_num)
theorem msqrd (x : Word32) : Statement (.msqrd x) := of_forty fun _ w e => by
  cases e; exact wordC_lt (by norm_num) (by norm_num) x.isLt
theorem reset : Statement .reset := of_forty fun _ w e => by cases e; norm_num
theorem reserved (op : BitVec 4) : Statement (.reserved op) := of_forty fun _ w e => by
  cases e; have := op.isLt; omega
theorem armEpc : Statement .armEpc := of_forty fun _ w e => by cases e; norm_num
theorem armRn16 : Statement .armRn16 := of_forty fun _ w e => by cases e; norm_num
theorem mag (z : IQ) : Statement (.mag z) := of_none fun _ => rfl
theorem avgUpd : Statement .avgUpd := of_none fun _ => rfl
theorem avgThr : Statement .avgThr := of_none fun _ => rfl
theorem dcUpd (z : IQ) : Statement (.dcUpd z) := of_none fun _ => rfl
theorem dcSub (z : IQ) : Statement (.dcSub z) := of_none fun _ => rfl
theorem msqVal : Statement .msqVal := of_none fun _ => rfl
theorem nInc : Statement .nInc := of_none fun _ => rfl
theorem edgeFall : Statement .edgeFall := of_none fun _ => rfl
theorem edgeRise : Statement .edgeRise := of_none fun _ => rfl
theorem detFire (z : IQ) : Statement (.detFire z) := of_none fun _ => rfl
theorem gateArm : Statement .gateArm := of_none fun _ => rfl
theorem gateOpen : Statement .gateOpen := of_none fun _ => rfl
theorem gateFwd (z : IQ) : Statement (.gateFwd z) := of_none fun _ => rfl
theorem gateClose : Statement .gateClose := of_none fun _ => rfl
theorem termChk (now : Word32) : Statement (.termChk now) := of_none fun _ => rfl
theorem construct (p : Params) : Statement (.construct p) := of_none fun _ => rfl
theorem deriveCount (d r : Nat) : Statement (.deriveCount d r) := of_none fun _ => rfl
theorem invoke (now : Word32) (batch : List IQ) : Statement (.invoke now batch) := of_none fun _ => rfl

end Sys2Proof.Laws.EncodingFits
end

