-- ==== Sys2Proof/Laws/Sample.lean ====
section
/-! SUPPORT. A processed SAMPLE: the state before the edge transition of path (a) and before GATE.FWD of path (b), and the
list of everything a SAMPLE can do. -/

namespace Sys2Proof.Machine

/-- Samples are not drained where the block processes them. -/
theorem Processing.drains {s : State} (h : Processing s) : s.drains = false := by
  rw [← Bool.not_eq_true, State.drains_iff]; exact fun hd => h.2 hd.1 hd.2

/-- The state after MAG, AVG.UPD and AVG.THR, with oldM the element AVG.UPD replaces. -/
def State.averaged (s : State) (z : IQ) (oldM : Scalar) : State :=
  { s with
    avg := s.cfg.num.add s.avg (s.cfg.num.divn (s.cfg.num.sub (s.cfg.num.mag z) oldM) s.cfg.navg)
    win := s.win.set s.wi (s.cfg.num.mag z)
    wi := (s.wi + 1) % s.cfg.navg
    work := { s.work with
      m := s.cfg.num.mag z
      thr := s.cfg.num.tf
        (s.cfg.num.add s.avg (s.cfg.num.divn (s.cfg.num.sub (s.cfg.num.mag z) oldM) s.cfg.navg))
        s.cfg.threshFraction } }

/-- The state after DC.UPD and N.INC, with oldS the element DC.UPD replaces. -/
def State.estimated (s : State) (z oldS : IQ) : State :=
  { s with
    dc := s.cfg.num.cadd s.dc (s.cfg.num.cdivn (s.cfg.num.csub z oldS) s.cfg.ndc)
    dcw := s.dcw.set s.di z
    di := (s.di + 1) % s.cfg.ndc
    n := satInc s.n }

/-- Path (a) of a processed SAMPLE, up to the edge transition (R228, R229). -/
theorem execSample_closed {s : State} {i q a : Scalar} {b : IQ} (hp : Processing s) (hg : s.gate ≠ .opened)
    (hr : RingsReadable s a b) :
    execSample i q s =
      .next ((((s.averaged ⟨i, q⟩ a).estimated ⟨i, q⟩ b).edgeStep).closedPathEnd ⟨i, q⟩) := by
  obtain ⟨h1, h2, h3, h4⟩ := hr
  have e1 := State.avgUpd_of_read (s := s.mag ⟨i, q⟩) h1 h2
  rw [execSample_run i q hp.1 hp.drains, State.process_closed ⟨i, q⟩ hg e1]
  unfold State.closedPath
  rw [State.dcUpd_of_read (old := b) (by simpa [State.avgThr] using h3) (by simpa [State.avgThr] using h4)]
  rfl

/-- Path (b) of a processed SAMPLE (R228, R229). -/
theorem execSample_opened {s : State} {i q a : Scalar} (hp : Processing s) (hg : s.gate = .opened)
    (h1 : s.wi < s.cfg.navg) (h2 : s.win[s.wi]? = some a) :
    execSample i q s = .next ((s.averaged ⟨i, q⟩ a).openPath ⟨i, q⟩) := by
  have e1 := State.avgUpd_of_read (s := s.mag ⟨i, q⟩) h1 h2
  rw [execSample_run i q hp.1 hp.drains, State.process_open ⟨i, q⟩ hg e1]
  rfl

/-- Path (b) after the averager: GATE.FWD, GATE.CLOSE, the count and the response. -/
theorem State.openPath_eq (s : State) (z : IQ) :
    s.openPath z = { s with
      out := s.out ++ [s.cfg.num.csub z s.dc], written := s.written + 1
      msq := s.msq ++ [s.cfg.num.msq (s.cfg.num.csub z s.dc)]
      n := satInc s.n
      consumed := s.consumed + 1
      gate := if s.fwdLen.toNat ≤ satInc s.n then .closed else s.gate
      phase := if s.fwdLen.toNat ≤ satInc s.n then .stop else s.phase
      evt := if s.fwdLen.toNat ≤ satInc s.n then s.evt ++ [.evClose] else s.evt
      rsp := ⟨if s.fwdLen.toNat ≤ satInc s.n then .done else .ok, .sample (s.cfg.num.csub z s.dc)⟩
      work := .clear } := by
  simp only [State.openPath, State.gateFwd_eq, State.gateClose_eq, State.consume, State.finish, State.respond,
    State.clearWork, State.windowDone, decide_eq_true_eq]

/-- Everything a SAMPLE can do (R228, R231, R232). -/
theorem execSample_cases (i q : Scalar) (s : State) :
    (s.phase = .idle ∧ execSample i q s = .next (s.respond (.plain .errPhase))) ∨
    (s.phase = .stop ∧ execSample i q s = .next (s.respond (.plain .stopped))) ∨
    (s.phase = .run ∧ s.drains = true ∧ execSample i q s = .next (s.consume.respond (.plain .ok))) ∨
    (Processing s ∧ (s.cfg.navg ≤ s.wi ∨ s.win.length ≤ s.wi) ∧ execSample i q s = .fault .noWinElement) ∨
    (Processing s ∧ s.gate ≠ .opened ∧ (s.cfg.ndc ≤ s.di ∨ s.dcw.length ≤ s.di) ∧
      execSample i q s = .fault .noDcwElement) ∨
    (Processing s ∧ s.gate = .opened ∧ ∃ a, s.wi < s.cfg.navg ∧ s.win[s.wi]? = some a ∧
      execSample i q s = .next ((s.averaged ⟨i, q⟩ a).openPath ⟨i, q⟩)) ∨
    (Processing s ∧ s.gate ≠ .opened ∧ ∃ a b, RingsReadable s a b ∧ execSample i q s =
      .next ((((s.averaged ⟨i, q⟩ a).estimated ⟨i, q⟩ b).edgeStep).closedPathEnd ⟨i, q⟩)) := by
  cases hph : s.phase with
  | idle => exact .inl ⟨rfl, execSample_idle i q hph⟩
  | stop => exact .inr (.inl ⟨rfl, execSample_stop i q hph⟩)
  | run =>
    refine .inr (.inr ?_)
    rcases Bool.eq_false_or_eq_true s.drains with hd | hd
    · exact .inl ⟨rfl, hd, execSample_drain i q hph hd⟩
    · have hP : Processing s := ⟨hph, fun h1 h2 => by simp [State.drains, h1, h2] at hd⟩
      refine .inr ?_
      rcases State.avgUpd_cases (s.mag ⟨i, q⟩) with ⟨hn, ho⟩ | ⟨a, h1, h2, ha⟩
      · refine .inl ⟨hP, ho, ?_⟩
        rw [execSample_run i q hph hd]; unfold State.process; rw [hn]
      · refine .inr ?_
        by_cases hg : s.gate = .opened
        · exact .inr (.inl ⟨hP, hg, a, h1, h2, execSample_opened hP hg h1 h2⟩)
        · rcases State.dcUpd_cases (s.averaged ⟨i, q⟩ a) ⟨i, q⟩ with ⟨hn, ho⟩ | ⟨b, h3, h4, hb⟩
          · refine .inl ⟨hP, hg, ho, ?_⟩
            rw [execSample_run i q hph hd, State.process_closed ⟨i, q⟩ hg ha]
            show (s.averaged ⟨i, q⟩ a).closedPath ⟨i, q⟩ = _
            unfold State.closedPath; rw [hn]
          · exact .inr (.inr ⟨hP, hg, a, b, ⟨h1, h2, h3, h4⟩, execSample_closed hP hg ⟨h1, h2, h3, h4⟩⟩)

end Sys2Proof.Machine
end

