-- ==== Sys2Proof/Tests/Slice0.lean ====
section
/-! SUPPORT. Tests: ill-formed terms refused, every command word written out, single steps against the vectors of
spec/95, and for each statement a state and operands that meet its hypotheses. Expected values are the spec's. -/

namespace Sys2Proof.Tests

open Sys2Proof.Machine

-- Each test waits for the kernel: one after another they need few threads.
set_option Elab.async false

/-! ### Small states -/

/-- The next state, if there is one. -/
def view (r : StepResult) : Option State :=
  match r with
  | .next t => some t
  | .fault _ => none
  | .refused _ => none

/-- The fault, if there is one. -/
def faultOf (r : StepResult) : Option Fault :=
  match r with
  | .next _ => none
  | .fault f => some f
  | .refused _ => none

theorem next_of_view {r : StepResult} {t : State} (h : view r = some t) : r = .next t := by
  cases r with
  | next s => simp only [view, Option.some.injEq] at h; rw [h]
  | fault f => cases h
  | refused f => cases h

theorem fault_of_faultOf {r : StepResult} {f : Fault} (h : faultOf r = some f) : r = .fault f := by
  cases r with
  | next s => cases h
  | fault g => simp only [faultOf, Option.some.injEq] at h; rw [h]
  | refused g => cases h

/-- The parameters of the small configuration (spec/95). -/
def smallParams : Params where
  timing := .counts 3 2 1 4 2
  threshFraction := 3 / 4
  minPulses := 1
  preambleBits := 1
  epcBits := 4
  rn16Bits := 2
  maxQueries := 1000
  tagTarget := 100
  msqCap := 7
  termPolicy := .cont
  triggerAppendsMsq := false
  num := ⟨.exact, 16⟩

/-- The small configuration (spec/95). -/
def small : Config where
  timing := .counts 3 2 1 4 2
  t1 := 3
  pw := 2
  bit := 1
  navg := 4
  ndc := 2
  lEpc := 7
  lRn16 := 5
  threshFraction := 3 / 4
  minPulses := 1
  preambleBits := 1
  epcBits := 4
  rn16Bits := 2
  maxQueries := 1000
  tagTarget := 100
  msqCap := 7
  termPolicy := .cont
  triggerAppendsMsq := false
  num := ⟨.exact, 16⟩

/-- The small machine after reset, and in an invocation. -/
def fresh : State := State.constructed small
def running : State := { fresh with phase := .run }

/-- In an invocation, WIN full of 8, EDGE = RISING (spec/95 §2.4). -/
def high : State := { running with avg := 8, win := [8, 8, 8, 8], edge := .rising }

/-- The start of vector G1 (spec/95 §2.5): an open window. -/
def opened : State :=
  { running with
    gate := .opened, fwdLen := 5, n := 1, dc := ⟨8, 0⟩, dcw := [⟨8, 0⟩, ⟨8, 0⟩], edge := .rising }

/-- The values M and THR of a step in progress. -/
def withMThr (s : State) (m thr : Scalar) : State := { s with work := { s.work with m := m, thr := thr } }

/-! ### WellFormed -/

theorem test_wf_sample_fraction : wellFormed ⟨.exact, 16⟩ (.sample (1 / 2) 0) = false := by decide +kernel
theorem test_wf_sample_too_wide : wellFormed ⟨.exact, 16⟩ (.sample 0 32768) = false := by decide +kernel
theorem test_wf_sample_ends : wellFormed ⟨.exact, 16⟩ (.sample (-32768) 32767) = true := by decide +kernel
theorem test_wf_reserved_low_op : wellFormed ⟨.exact, 16⟩ (.reserved 7) = false := by decide
theorem test_wf_reserved : wellFormed ⟨.exact, 16⟩ (.reserved 8) = true := by decide
theorem test_wf_invoke_batch : wellFormed ⟨.exact, 16⟩ (.invoke 0 [⟨8, 0⟩, ⟨0, 1 / 2⟩]) = false := by decide +kernel

/-! ### Words, written out from the formats of R91 to R96, and from spec/95 §2.8 -/

theorem test_decode_nop : decodeTableWord 40 0b0000 = some .nop := by decide
/-- now = 10 in cmd[35:4]. -/
theorem test_decode_begin : decodeTableWord 40 0b10100001 = some (.beginInv 10) := by decide
/-- I = 3 in cmd[19:4], Q = 4 in cmd[35:20]. -/
theorem test_decode_sample : decodeTableWord 40 0b10000000000000000110010 = some (.sample 3 4) := by decide +kernel
/-- Q = -4 is 0xFFFC in cmd[35:20]. -/
theorem test_decode_sample_negative :
    decodeTableWord 40 0b111111111111110000000000000000000010 = some (.sample 0 (-4)) := by decide +kernel
theorem test_decode_end : decodeTableWord 40 0b0011 = some .endInv := by decide
/-- addr = 3 in cmd[7:4], data = 1001 in cmd[39:8]. -/
theorem test_decode_ctxwr : decodeTableWord 40 0b111110100100110100 = some (.ctxwr .nq 1001) := by decide
/-- addr = 7 in cmd[7:4]. -/
theorem test_decode_ctxrd : decodeTableWord 40 0b01110101 = some (.ctxrd .msqLen) := by decide
/-- idx = 3 in cmd[39:8]. -/
theorem test_decode_msqrd : decodeTableWord 40 0b1100000110 = some (.msqrd 3) := by decide
theorem test_decode_reset : decodeTableWord 40 0b0111 = some .reset := by decide
theorem test_decode_reserved : decodeTableWord 40 0b1001 = some (.reserved 9) := by decide
theorem test_decode_reserved_full : decodeTableWord 40 0xFFFFFFFFFF = some (.reserved 15) := by decide
/-- ARM_EPC and ARM_RN16 are CTXWR GATE, 1 and CTXWR GATE, 2 (R104). -/
theorem test_decode_pseudo :
    decodeTableWord 40 0x0000000104 = some (.ctxwr .gate 1) ∧
    decodeTableWord 40 0x0000000204 = some (.ctxwr .gate 2) := by decide
theorem test_decode_ignores_reserved_bits : decodeTableWord 40 0xF000000003 = some .endInv := by decide
theorem test_decode_too_wide : decodeTableWord 41 0x10000000003 = none := by decide
/-- With SW = 20 the command port is 44 bits wide: I in cmd[23:4], Q in cmd[43:24]. -/
theorem test_decode_wide_scalars : decode ⟨.exact, 20⟩ 0x00005000072 = .ok (.sample 7 5) := by decide +kernel
theorem test_encode_pseudo :
    encode ⟨.exact, 16⟩ .armEpc = some 0x0000000104 ∧ encode ⟨.exact, 16⟩ .armRn16 = some 0x0000000204 := by decide
theorem test_encode_sample : encode ⟨.exact, 16⟩ (.sample (-4) 0) = some 0x00000FFFC2 := by decide +kernel
theorem test_encode_reserved : encode ⟨.exact, 16⟩ (.reserved 9) = some 0x9 := by decide
theorem test_micro_has_no_word : encode ⟨.exact, 16⟩ .avgUpd = none := by decide

/-! ### Response words (spec/95 §2.8) -/

theorem test_rsp_sample :
    (Response.mk .ok (.sample ⟨-1, 1⟩)).word ⟨.exact, 16⟩ = some 0x3FFFF0 := by decide +kernel
theorem test_rsp_done :
    (Response.mk .done (.sample ⟨-3, -4⟩)).word ⟨.exact, 16⟩ = some 0x1FFF9FFFB1 := by decide +kernel
theorem test_rsp_end : (Response.mk .ok (.counts 21 5)).word ⟨.exact, 16⟩ = some 0xA0000002A0 := by decide
theorem test_rsp_ctxrd : (Response.mk .ok (.data 1000)).word ⟨.exact, 16⟩ = some 0x7D00 := by decide
theorem test_rsp_msqrd : (Response.mk .ok (.value 25)).word ⟨.exact, 16⟩ = some 0x320 := by decide +kernel
theorem test_rsp_range : (Response.mk .errRange .empty).word ⟨.exact, 16⟩ = some 0xB := by decide

/-! ### The step from reset -/

theorem test_step_begin :
    (view (step (State.reset.withFetchWord 40 0x1))).map (fun t => (t.phase, t.rsp.code)) = some (.run, .ok) := by
  decide +kernel
theorem test_step_sample_in_idle :
    (view (step (State.reset.withFetchWord 40 0x82))).map (·.rsp) = some ⟨.errPhase, .empty⟩ := by decide +kernel
theorem test_step_too_wide : step (State.reset.withFetchWord 40 0x10000000003) = .refused .widerThanPort := by rfl

/-! ### Construction (spec/95 §2.1) -/

theorem test_construct_small : construct smallParams = .ok small := by decide +kernel
theorem test_construct_default : construct Params.default = .ok Config.default := by decide +kernel
theorem test_construct_512000 :
    (view (execConstruct { Params.default with timing := .rate 512000 240 12 25 250 120, msqCap := 1644 } fresh)).map
      (fun t => ((t.cfg.t1, t.cfg.pw, t.cfg.bit), t.cfg.navg, t.cfg.ndc, t.cfg.lEpc, t.cfg.lRn16)) =
      some ((122, 6, 12), 128, 61, 1644, 300) := by decide +kernel
theorem test_construct_83333 :
    faultOf (execConstruct { Params.default with timing := .rate 83333 240 12 25 250 120 } fresh) =
      some (.configError .pw) := by decide +kernel
theorem test_deriveCount : deriveCount 240 400000 = 96 ∧ deriveCount 12 400000 = 4 ∧ deriveCount 240 512500 = 123 := by
  decide
theorem test_reset :
    (view (exec .reset { high with n := 9, p := 4, nq := 5, msq := [1] })).map
      (fun t => ((t.avg, t.win, t.edge, t.n), t.p, t.nq, t.msq, t.phase)) =
      some ((0, [0, 0, 0, 0], .falling, 0), 0, 0, [], .idle) := by decide +kernel

/-! ### Ring averager (spec/95 §2.2, R141 to R143) -/

theorem test_mag : exactMag 3 4 = 5 ∧ exactMag (-4) 0 = 4 ∧ exactMag (3 / 2) 2 = 5 / 2 ∧ exactMag 0 0 = 0 := by
  decide +kernel
theorem test_exec_mag : (view (exec (.mag ⟨12, 5⟩) fresh)).map (·.work.m) = some 13 := by decide +kernel
/-- The fifth row of the table: index 0 again, WIN[0] = 4 replaced by 4. -/
theorem test_avgUpd :
    (view (exec .avgUpd { withMThr fresh 4 0 with avg := 13 / 4, win := [4, 4, 0, 5], wi := 2 })).map
      (fun t => (t.avg, t.win, t.wi)) = some (17 / 4, [4, 4, 4, 5], 3) := by decide +kernel
theorem test_avgUpd_wraps :
    (view (exec .avgUpd { withMThr fresh 4 0 with avg := 17 / 4, win := [4, 4, 4, 5], wi := 3 })).map
      (fun t => (t.avg, t.win, t.wi)) = some (4, [4, 4, 4, 4], 0) := by decide +kernel
theorem test_avgThr : (view (exec .avgThr { fresh with avg := 17 / 4 })).map (·.work.thr) = some (51 / 16) := by
  decide +kernel

/-! ### DC offset estimator (spec/95 §2.3) -/

theorem test_dcUpd :
    (view (exec (.dcUpd ⟨3, 4⟩) { fresh with dc := ⟨4, 0⟩, dcw := [⟨0, 0⟩, ⟨8, 0⟩], di := 1 })).map
      (fun t => (t.dc, t.dcw, t.di)) = some (⟨3 / 2, 2⟩, [⟨0, 0⟩, ⟨3, 4⟩], 0) := by decide +kernel
theorem test_dcSub : (view (exec (.dcSub ⟨5, -12⟩) { fresh with dc := ⟨8, 0⟩ })).map (·.work.y) = some ⟨-3, -12⟩ := by
  decide +kernel
theorem test_msqVal :
    (view (exec .msqVal { fresh with work := { fresh.work with y := ⟨-3, -12⟩ } })).map (·.work.sq) = some 153 := by
  decide +kernel

/-! ### Edge detector (spec/95 §2.4, R176 to R180) -/

theorem test_nInc : (view (exec .nInc { fresh with n := 2 ^ 32 - 1 })).map (·.n) = some (2 ^ 32 - 1) := by
  decide +kernel
theorem test_edgeFall :
    (view (exec .edgeFall { withMThr high 0 3 with n := 7, p := 2 })).map (fun t => (t.edge, t.n, t.p)) =
      some (.falling, 0, 2) := by decide +kernel
/-- M = THR is not below. -/
theorem test_edgeFall_equal :
    (view (exec .edgeFall { withMThr high 3 3 with n := 7 })).map (fun t => (t.edge, t.n)) = some (.rising, 7) := by
  decide +kernel
/-- R178's example: PW = 4. -/
theorem test_edgeRise :
    (view (exec .edgeRise { withMThr fresh 8 3 with cfg := { small with pw := 4 }, n := 3, p := 2 })).map
      (fun t => (t.edge, t.n, t.p)) = some (.rising, 0, 3) := by decide +kernel
theorem test_edgeRise_short :
    (view (exec .edgeRise { withMThr fresh 8 3 with cfg := { small with pw := 4 }, n := 2, p := 2 })).map
      (fun t => (t.edge, t.n, t.p)) = some (.rising, 0, 0) := by decide +kernel
/-- R180's example. -/
theorem test_detFire :
    (view (exec (.detFire ⟨8, 0⟩) { high with n := 4, p := 3, dc := ⟨8, 0⟩, msq := [9] })).map
      (fun t => ((t.msq, t.out, t.p), t.n, t.gate, t.evt)) =
      some (([], [⟨0, 0⟩], 0), 1, .opened, [.evOpen]) := by decide +kernel
theorem test_detFire_appends :
    (view (exec (.detFire ⟨8, 0⟩)
      { high with cfg := { small with triggerAppendsMsq := true }, n := 4, p := 3, dc := ⟨6, 0⟩, msq := [9] })).map
      (·.msq) = some [4] := by decide +kernel

/-! ### Gate controller (spec/95 §2.5) -/

theorem test_gateArm_epc :
    (view (exec .gateArm { fresh with gate := .seekEpc, n := 9 })).map (fun t => (t.gate, t.fwdLen, t.n)) =
      some (.closed, 7, 0) := by decide +kernel
theorem test_gateArm_rn16 :
    (view (exec .gateArm { fresh with gate := .seekRn16, n := 9 })).map (fun t => (t.gate, t.fwdLen, t.n)) =
      some (.closed, 5, 0) := by decide +kernel
theorem test_gateOpen : (view (exec .gateOpen { high with n := 4 })).map (fun t => (t.gate, t.n)) = some (.opened, 1) := by
  decide +kernel
/-- R204's example. -/
theorem test_gateFwd :
    (view (exec (.gateFwd ⟨10, 1⟩) opened)).map (fun t => (t.out, t.msq, t.n, t.gate, t.written)) =
      some ([⟨2, 1⟩], [5], 2, .opened, 1) := by decide +kernel
theorem test_gateClose :
    (view (exec .gateClose { opened with n := 5 })).map (fun t => (t.gate, t.phase, t.n, t.evt)) =
      some (.closed, .stop, 5, [.evClose]) := by decide +kernel
theorem test_gateClose_not_yet :
    (view (exec .gateClose { opened with n := 4 })).map (fun t => (t.gate, t.phase)) = some (.opened, .run) := by
  decide +kernel

/-! ### Stream router -/

theorem test_nop : (view (exec .nop opened)).map (·.rsp) = some ⟨.ok, .empty⟩ := by decide +kernel
/-- Vector G0. -/
theorem test_begin :
    (view (exec (.beginInv 0) { fresh with gate := .seekEpc, n := 9, consumed := 3 })).map
      (fun t => (t.gate, t.fwdLen, t.n, t.phase, t.consumed)) = some (.closed, 7, 0, .run, 0) := by decide +kernel
/-- Vector E2: M = THR does not fall, and N = 6 > 3 with P = 2 > 1 fires. -/
theorem test_sample_fires :
    (view (exec (.sample 1 0)
      { running with
        cfg := { small with threshFraction := 1 / 2 }, avg := 4, win := [9, 3, 4, 0], edge := .rising, n := 5, p := 2 })).map
      (fun t => (t.edge, t.n, t.p, t.gate, t.rsp)) =
      some (.rising, 1, 0, .opened, ⟨.ok, .sample ⟨1 / 2, 0⟩⟩) := by decide +kernel
/-- Vector G2. -/
theorem test_sample_completes :
    (view (exec (.sample 5 (-12))
      { opened with n := 4, msq := [41], avg := 13 / 4, win := [13, 0, 0, 0], wi := 1, consumed := 1 })).map
      (fun t => ((t.rsp, t.msq, t.n), t.gate, t.phase, t.avg, t.consumed)) =
      some ((⟨.done, .sample ⟨-3, -12⟩⟩, [41, 153], 5), .closed, .stop, 13 / 2, 2) := by decide +kernel
/-- Vector G4. -/
theorem test_end :
    (view (exec .endInv { opened with phase := .stop, consumed := 2, written := 2 })).map (fun t => (t.phase, t.rsp)) =
      some (.idle, ⟨.ok, .counts 2 2⟩) := by decide +kernel
theorem test_reserved : (view (exec (.reserved 9) running)).map (·.rsp.code.toNat) = some 0x8 := by decide +kernel
/-- Vector G6: an unarmed window of two samples. -/
theorem test_invoke :
    (view (exec (.invoke 0 (List.replicate 5 ⟨8, 0⟩)) { high with phase := .idle, n := 3, p := 2 })).map
      (fun t => (t.rsp, t.gate, t.n, t.phase, t.msq)) =
      some (⟨.ok, .invoked 2 2 [⟨4, 0⟩, ⟨4, 0⟩]⟩, .closed, 2, .idle, [16]) := by decide +kernel
/-- Vector V-DRAIN. -/
theorem test_invoke_drained :
    (view (exec (.invoke 3 (List.replicate 6 ⟨8, 0⟩))
      { fresh with cfg := { small with termPolicy := .drain }, nq := 1001 })).map
      (fun t => (t.rsp, t.avg, t.edge, t.n, t.tsEnd)) =
      some (⟨.ok, .invoked 6 0 []⟩, 0, .falling, 0, 3) := by decide +kernel

/-! ### Context access (spec/95 §2.7 and program P4) -/

theorem test_termChk :
    (view (exec (.termChk 1000) { fresh with nq := 1001, tsStart := 100 })).map (fun t => (t.status, t.tsEnd, t.evt)) =
      some (.terminated, 1000, [.evTerminated 900]) := by decide +kernel
/-- Equality does not exceed. -/
theorem test_termChk_equal :
    (view (exec (.termChk 5) { fresh with nq := 1000, ntags := 100 })).map (fun t => (t.status, t.tsEnd)) =
      some (.running, 0) := by decide +kernel
theorem test_ctxwr : (view (exec (.ctxwr .nq 1001) fresh)).map (fun t => (t.nq, t.rsp.code)) = some (1001, .ok) := by
  decide +kernel
theorem test_ctxwr_gate_3 :
    (view (exec (.ctxwr .gate 3) fresh)).map (fun t => (t.gate, t.rsp.code)) = some (.closed, .errDenied) := by
  decide +kernel
theorem test_armEpc : (view (exec .armEpc fresh)).map (·.gate) = some .seekEpc := by decide +kernel
theorem test_armRn16 : (view (exec .armRn16 opened)).map (·.rsp.code) = some .errPhase := by decide +kernel
theorem test_ctxrd : (view (exec (.ctxrd .gate) opened)).map (·.rsp.payload) = some (.data 3) := by decide +kernel
theorem test_ctxrd_unmapped : (view (exec (.ctxrd .unmappedF) fresh)).map (·.rsp.code) = some .errRange := by
  decide +kernel
/-- R266's example. -/
theorem test_msqrd : (view (exec (.msqrd 2) { fresh with msq := [5, 5, 4] })).map (·.rsp.payload) = some (.value 4) := by
  decide +kernel
theorem test_msqrd_range :
    (view (exec (.msqrd 3) { fresh with msq := [5, 5, 4] })).map (·.rsp.code) = some .errRange := by decide +kernel

/-! ### Witnesses: states and operands that meet the hypotheses of each statement -/

theorem witness_CommandsDecodeFromTheirWords :
    (Instr.sample 3 4).isCommand = true ∧ wellFormed ⟨.exact, 16⟩ (.sample 3 4) = true ∧
    Instr.armEpc.isCommand = true ∧ wellFormed ⟨.exact, 16⟩ .armEpc = true ∧
    (Instr.reserved 8).isCommand = true ∧ wellFormed ⟨.exact, 16⟩ (.reserved 8) = true := by decide +kernel

theorem witness_EveryPortWordDecodes :
    (2 ^ 40 - 1 < 2 ^ commandWidth 16 ∧ 8 ≤ (2 ^ 40 - 1) % 16) ∧ 2 ^ commandWidth 16 ≤ 2 ^ 40 := by decide

/-- END with and without its reserved bits; SAMPLE with and without cmd[39:36]. -/
theorem witness_ReservedBitsAreIgnored :
    (0x3 < 2 ^ commandWidth 16 ∧ 0xF000000003 < 2 ^ commandWidth 16 ∧ 0x3 % 16 = 0xF000000003 % 16) ∧
    (0x0000000082 % 16 = 0xF000000082 % 16 ∧
      0x0000000082 / 2 ^ 4 % 2 ^ (2 * 16) = 0xF000000082 / 2 ^ 4 % 2 ^ (2 * 16)) := by decide

theorem witness_ResponseWordLayout :
    2 ^ 32 - 1 < 2 ^ 32 ∧ (⟨.exact, 16⟩ : Numerics).enc (-3) = some 0xFFFD ∧ (⟨.exact, 16⟩ : Numerics).enc 32767 = some 0x7FFF := by
  decide +kernel

theorem witness_StepPerformsTheDecodedCommand :
    ({ fresh with cmds := [0x82, 0x3] } : State).cmds = 0x82 :: [0x3] ∧
    decode fresh.cfg.num 0x82 = .ok (.sample 8 0) ∧ fresh.cmds = [] := by decide +kernel

theorem witness_ReservedOpcodeAnswersErrIllegal :
    0x8 < 2 ^ commandWidth 16 ∧ 8 ≤ 0x8 % 16 ∧ 0xFFFFFFFFFF < 2 ^ commandWidth 16 ∧ 8 ≤ 0xFFFFFFFFFF % 16 := by decide

theorem witness_ConstructionEqualsReset :
    exec (.construct smallParams) fresh = .next fresh ∧ high.cfg = fresh.cfg ∧ high.cmds = fresh.cmds :=
  ⟨next_of_view (by decide +kernel), rfl, rfl⟩

/-- Counts named directly, each at its least value, and the counts of the lowest legal rate. -/
theorem witness_TimingGives :
    TimingGives (.counts 1 1 1 1 1) 1 1 1 1 1 ∧
    TimingGives (.rate ((83334 : Nat) : Rat) 240 12 25 250 120) 20 1 2 20 10 :=
  ⟨.inl rfl, .inr ⟨83334, 240, 12, 25, 250, 120, by decide, by decide, rfl, by decide, by decide, by decide, by decide,
    by decide⟩⟩

theorem witness_ConstructMakesTheMachine :
    TimingGives smallParams.timing 3 2 1 4 2 ∧ (1 ≤ 3 ∧ 1 ≤ 2 ∧ 1 ≤ 1 ∧ 1 ≤ 4 ∧ 1 ≤ 2) ∧
    7 = (smallParams.epcBits.toNat + smallParams.preambleBits.toNat) * 1 + 2 * 1 ∧
    5 = (smallParams.rn16Bits.toNat + smallParams.preambleBits.toNat) * 1 + 2 * 1 ∧
    OtherParamsOk smallParams 3 2 7 5 := by
  refine ⟨.inl rfl, by decide, by decide, by decide, ?_⟩
  unfold OtherParamsOk; decide

/-- A zero at each place, with every count before it at 1. -/
theorem witness_FirstZeroCountIsTheConfigError :
    TimingGives (.counts 0 1 1 1 1) 0 1 1 1 1 ∧ TimingGives (.counts 1 0 1 1 1) 1 0 1 1 1 ∧
    TimingGives (.counts 1 1 0 0 1) 1 1 0 0 1 ∧ TimingGives (.counts 1 1 1 0 1) 1 1 1 0 1 ∧
    TimingGives (.counts 1 1 1 1 0) 1 1 1 1 0 := ⟨.inl rfl, .inl rfl, .inl rfl, .inl rfl, .inl rfl⟩

/-- The rates 0 and 2^32, the two ends of the legal range. -/
theorem witness_IllegalRateIsRefused :
    (∀ k : Nat, 1 ≤ k → k < 2 ^ 32 → (0 : Rat) ≠ (k : Rat)) ∧
    (∀ k : Nat, 1 ≤ k → k < 2 ^ 32 → ((2 ^ 32 : Nat) : Rat) ≠ (k : Rat)) := by
  refine ⟨fun k h _ he => ?_, fun k _ h he => ?_⟩
  · have : (0 : Nat) = k := by exact_mod_cast he
    omega
  · have : 2 ^ 32 = k := by exact_mod_cast he
    omega

/-- One machine whose other parameters pass and one whose MSQ_CAP is one too small. -/
theorem witness_OtherParametersDecideConstruction :
    TimingGives smallParams.timing 3 2 1 4 2 ∧ (1 ≤ 3 ∧ 1 ≤ 2 ∧ 1 ≤ 1 ∧ 1 ≤ 4 ∧ 1 ≤ 2) ∧
    OtherParamsOk smallParams 3 2 7 5 ∧ ¬ OtherParamsOk { smallParams with msqCap := 6 } 3 2 7 5 := by
  refine ⟨.inl rfl, by decide, ?_⟩
  unfold OtherParamsOk; decide

theorem witness_MagIsTheMagnitude :
    fresh.cfg.num.inst = .exact ∧ (0 : Rat) ≤ 5 ∧ (3 : Rat) * 3 + 4 * 4 = 5 * 5 ∧
    ({ fresh with cfg := { small with num := ⟨.other 1, 32⟩ } } : State).cfg.num.inst = .other 1 := by decide +kernel

theorem witness_AvgUpdReplacesTheOldestMagnitude :
    ({ high with wi := 3 } : State).wi < high.cfg.navg ∧ high.win[3]? = some 8 := by decide +kernel

theorem witness_StepKeepsTheRunningMeans :
    Inv { high with cmds := [0x82] } ∧ MeansOk { high with cmds := [0x82] } ∧
    (view (step { high with cmds := [0x82] })).isSome = true := by decide +kernel

theorem witness_ConstantMagnitudeConverges :
    Inv high ∧ MeansOk high ∧ high.cfg.num.inst = .exact ∧ Processing high ∧
    (∀ z ∈ [IQ.mk 3 4, ⟨-5, 0⟩, ⟨0, 5⟩, ⟨4, -3⟩], high.cfg.num.mag z = 5) ∧
    high.cfg.navg ≤ [IQ.mk 3 4, ⟨-5, 0⟩, ⟨0, 5⟩, ⟨4, -3⟩].length := by decide +kernel

theorem witness_DcUpdReplacesTheOldestSample :
    ({ opened with di := 1 } : State).di < opened.cfg.ndc ∧ opened.dcw[1]? = some ⟨8, 0⟩ := by decide +kernel

theorem witness_DcEstimateConverges :
    Memory.wf opened = true ∧ MeansOk opened ∧ opened.cfg.num.inst = .exact ∧
    [IQ.mk (-1) 1, ⟨1, -1⟩].length = opened.cfg.ndc := by decide +kernel

/-- Each index at its capacity, and a window shorter than its index. -/
theorem witness_IndexOutsideARingFaults :
    ({ fresh with wi := 4 } : State).cfg.navg ≤ 4 ∧ ({ fresh with win := [] } : State).win.length ≤ fresh.wi ∧
    ({ fresh with di := 2 } : State).cfg.ndc ≤ 2 ∧ ({ fresh with dcw := [] } : State).dcw.length ≤ fresh.di := by
  decide +kernel

theorem witness_NIncSaturates :
    ({ fresh with n := 2 ^ 32 - 2 } : State).n < 2 ^ 32 - 1 ∧ ({ fresh with n := 2 ^ 32 - 1 } : State).n = 2 ^ 32 - 1 := by
  decide +kernel

theorem witness_EdgeFallResetsTheCounter :
    (high.edge = .rising ∧ small.num.lt (withMThr high 2 3).work.m (withMThr high 2 3).work.thr = true) ∧
    (fresh.edge = .falling ∧ small.num.lt (withMThr high 3 3).work.m (withMThr high 3 3).work.thr = false) := by
  decide +kernel

/-- N at half the pulse width (PW = 2) and just above it; P at and below its largest value; M equal to THR. -/
theorem witness_EdgeRiseQualifiesThePulse :
    fresh.edge = .falling ∧ small.num.lt 3 8 = true ∧ small.pw / 2 < 2 ∧ 2 ^ 32 - 2 < 2 ^ 32 - 1 ∧
    ({ fresh with p := 2 ^ 32 - 1 } : State).p = 2 ^ 32 - 1 ∧ 1 ≤ small.pw / 2 ∧ high.edge = .rising ∧
    small.num.lt 3 3 = false := by decide +kernel

/-- N at T1 and just above, P at MIN_PULSES and just above. -/
theorem witness_DetFireOpensTheGate :
    high.edge = .rising ∧ small.t1 < 4 ∧ small.minPulses < 2 ∧ fresh.edge = .falling ∧ 3 ≤ small.t1 ∧
    1 ≤ small.minPulses := by decide +kernel

/-- NeverBelow, evaluated. -/
def neverBelow (s : State) : List IQ → Bool
  | [] => true
  | z :: rest =>
    match exec (.sample z.i z.q) s with
    | .next t => !s.cfg.num.lt (s.cfg.num.mag z) (s.cfg.num.tf t.avg s.cfg.threshFraction) && neverBelow t rest
    | .fault _ => true
    | .refused _ => true

theorem neverBelow_sound (zs : List IQ) : ∀ s : State, neverBelow s zs = true → NeverBelow s zs := by
  induction zs with
  | nil => intro s _; trivial
  | cons z zs ih =>
    intro s h t ht
    simp only [neverBelow, ht, Bool.and_eq_true, Bool.not_eq_true'] at h
    exact ⟨h.1, ih t h.2⟩

/-- AlwaysBelow, evaluated. -/
def alwaysBelow (s : State) : List IQ → Bool
  | [] => true
  | z :: rest =>
    match exec (.sample z.i z.q) s with
    | .next t =>
      s.cfg.num.lt (s.cfg.num.mag z) (s.cfg.num.tf t.avg s.cfg.threshFraction) &&
        !s.cfg.num.lt (s.cfg.num.tf t.avg s.cfg.threshFraction) (s.cfg.num.mag z) && alwaysBelow t rest
    | .fault _ => true
    | .refused _ => true

theorem alwaysBelow_sound (zs : List IQ) : ∀ s : State, alwaysBelow s zs = true → AlwaysBelow s zs := by
  induction zs with
  | nil => intro s _; trivial
  | cons z zs ih =>
    intro s h t ht
    simp only [alwaysBelow, ht, Bool.and_eq_true, Bool.not_eq_true'] at h
    exact ⟨h.1.1, h.1.2, ih t h.2⟩

/-- P = 2 > MIN_PULSES = 1, N = 0, and T1 + 1 = 4 samples of magnitude 8 against a threshold of 6. -/
theorem witness_DetectionFiresAtSampleT1PlusOne :
    Inv { high with p := 2 } ∧ Processing { high with p := 2 } ∧ high.gate = .closed ∧ high.edge = .rising ∧
    high.n = 0 ∧ high.cfg.minPulses < 2 ∧ (List.replicate 3 (IQ.mk 8 0)).length = high.cfg.t1 ∧
    NeverBelow { high with p := 2 } (List.replicate 3 ⟨8, 0⟩ ++ [⟨8, 0⟩]) :=
  ⟨by decide +kernel, by decide +kernel, rfl, rfl, rfl, by decide +kernel, rfl, neverBelow_sound _ _ (by decide +kernel)⟩

/-- The sample (20,0) after the low run zs: whether it is above its threshold. -/
def risesAfter (zs : List IQ) : Bool :=
  match runInstrs (samplesOf zs) high with
  | .next u =>
    match exec (.sample 20 0) u with
    | .next t => t.cfg.num.lt (t.cfg.num.tf t.avg t.cfg.threshFraction) (t.cfg.num.mag ⟨20, 0⟩)
    | .fault _ => false
    | .refused _ => false
  | .fault _ => false
  | .refused _ => false

/-- Low runs of q = 1 and q = 2 samples, on the two sides of PW div 2 = 1, each followed by a sample above. -/
theorem witness_LowRunOfQSamplesQualifiesThePulse :
    Inv high ∧ Processing high ∧ high.gate = .closed ∧ high.edge = .rising ∧
    AlwaysBelow high [⟨0, 0⟩] ∧ risesAfter [⟨0, 0⟩] = true ∧ 1 ≤ high.cfg.pw / 2 ∧
    AlwaysBelow high [⟨0, 0⟩, ⟨0, 0⟩] ∧ risesAfter [⟨0, 0⟩, ⟨0, 0⟩] = true ∧ high.cfg.pw / 2 < 2 :=
  ⟨by decide +kernel, by decide +kernel, rfl, rfl, alwaysBelow_sound _ _ (by decide +kernel), by decide +kernel,
    by decide +kernel, alwaysBelow_sound _ _ (by decide +kernel), by decide +kernel, by decide +kernel⟩

theorem witness_GateArmLoadsTheWindowLength :
    fresh.cfg.lEpc < 2 ^ 32 ∧ fresh.cfg.lRn16 < 2 ^ 32 ∧ ({ fresh with gate := .seekEpc } : State).gate = .seekEpc ∧
    ({ fresh with gate := .seekRn16 } : State).gate = .seekRn16 ∧ fresh.gate = .closed ∧ opened.gate = .opened := by
  decide +kernel

theorem witness_OnlyATriggerSampleOpensTheGate :
    (Instr.sample 8 0).isCommand = true ∧ ({ high with n := 3, p := 2 } : State).gate ≠ .opened ∧
    (view (exec (.sample 8 0) { high with n := 3, p := 2 })).map (·.gate) = some .opened := by decide +kernel

theorem witness_GateCloseEndsTheWindow :
    ({ opened with n := 5 } : State).fwdLen.toNat ≤ 5 ∧ 4 < ({ opened with n := 4 } : State).fwdLen.toNat := by
  decide +kernel

/-- An armed window with four samples to go, and an unarmed one with one to go. -/
theorem witness_WindowForwardsItsWholeLength :
    (Inv opened ∧ Processing opened ∧ opened.gate = .opened ∧
      opened.n + (List.replicate 4 (IQ.mk 12 5)).length = max opened.fwdLen.toNat 2) ∧
    (Inv { opened with fwdLen := 0 } ∧ Processing { opened with fwdLen := 0 } ∧
      ({ opened with fwdLen := 0 } : State).n + [IQ.mk 12 5].length =
        max ({ opened with fwdLen := 0 } : State).fwdLen.toNat 2) :=
  ⟨by decide +kernel, by decide +kernel⟩

/-- A change of GATE by every kind of command that makes one. -/
theorem witness_GateTransitionsAreTheTable :
    (view (exec (.ctxwr .gate 1) fresh)).map (·.gate) = some .seekEpc ∧
    (view (exec .armRn16 fresh)).map (·.gate) = some .seekRn16 ∧
    (view (exec (.beginInv 0) { fresh with gate := .seekEpc })).map (·.gate) = some .closed ∧
    (view (exec (.sample 8 0) { high with n := 3, p := 2 })).map (·.gate) = some .opened ∧
    (view (exec (.sample 8 0) { opened with n := 4 })).map (·.gate) = some .closed ∧
    (view (exec .reset opened)).map (·.gate) = some .closed := by decide +kernel

theorem witness_BeginStartsAnInvocation :
    fresh.cfg.lEpc < 2 ^ 32 ∧ fresh.cfg.lRn16 < 2 ^ 32 ∧ fresh.phase = .idle ∧ running.phase ≠ .idle := by
  decide +kernel

theorem witness_SampleOutsideRunIsNotConsumed :
    ({ fresh with phase := .stop } : State).phase = .stop ∧ fresh.phase = .idle := by decide +kernel

theorem witness_TerminationPolicyGovernsSample :
    (running.phase = .run ∧ ({ small with termPolicy := .drain } : Config).termPolicy = .drain ∧
      ({ running with status := .terminated } : State).status = .terminated) ∧
    (running.cfg.termPolicy = .cont ∧ (view (exec (.sample 8 0) running)).isSome = true) := by decide +kernel

/-- With EDGE = RISING and with EDGE = FALLING. -/
theorem witness_SampleWithGateNotOpen :
    Processing high ∧ high.gate ≠ .opened ∧ RingsReadable high 8 ⟨0, 0⟩ ∧
    Processing running ∧ running.gate ≠ .opened ∧ RingsReadable running 0 ⟨0, 0⟩ := by decide +kernel

theorem witness_SampleWithGateOpen :
    Processing opened ∧ opened.gate = .opened ∧ opened.wi < opened.cfg.navg ∧ opened.win[opened.wi]? = some 0 := by
  decide +kernel

theorem witness_SampleIsItsMicroOperations :
    (Processing high ∧ high.gate ≠ .opened ∧ (view (exec (.sample 8 0) high)).isSome = true) ∧
    (Processing opened ∧ opened.gate = .opened ∧ (view (exec (.sample 8 0) opened)).isSome = true) := by decide +kernel

theorem witness_EndReturnsTheCounts : running.phase ≠ .idle ∧ fresh.phase = .idle := by decide +kernel

theorem witness_InvokeIsItsCommandSequence : Inv fresh ∧ fresh.phase = .idle := by decide +kernel

theorem witness_InvokeOutsideIdleAnswersErrPhase : running.phase ≠ .idle := by decide +kernel

/-- An open window of FWD_LEN = 5 at N = 3 between invocations: two more samples complete it. -/
def between : State := { opened with phase := .idle, n := 3 }

/-- c = 2: a split after one sample (|A| < c) and after two (c = |A|). -/
theorem witness_SplittingABatchChangesNothing :
    Inv between ∧ between.phase = .idle ∧
    (view (exec (.invoke 0 ([⟨8, 0⟩] ++ [⟨9, 0⟩, ⟨10, 0⟩])) between)).map (·.rsp) =
      some ⟨.ok, .invoked 2 2 [⟨0, 0⟩, ⟨1, 0⟩]⟩ ∧
    (view (exec (.invoke 0 ([⟨8, 0⟩, ⟨9, 0⟩] ++ [⟨10, 0⟩])) between)).map (·.rsp) =
      some ⟨.ok, .invoked 2 2 [⟨0, 0⟩, ⟨1, 0⟩]⟩ := by decide +kernel

/-- NQ just above its limit, NTAGS just above its limit, both at the limit, and a terminated block. -/
theorem witness_TermChkStampsTheEnd :
    (fresh.cfg.maxQueries < (1001 : Word32).toNat ∧ fresh.cfg.tagTarget < (101 : Word32).toNat ∧
      fresh.status = .running) ∧
    ((1000 : Word32).toNat ≤ fresh.cfg.maxQueries ∧ (100 : Word32).toNat ≤ fresh.cfg.tagTarget) ∧
    ({ fresh with status := .terminated } : State).status = .terminated := by decide +kernel

theorem witness_CtxwrWritesWhatTheHostMayWrite :
    fresh.phase = .idle ∧ (3 : Word32) ≠ 1 ∧ (3 : Word32) ≠ 2 ∧ (2 : Word32) ≠ 0 ∧ (2 : Word32) ≠ 1 ∧
    running.phase ≠ .idle := by decide +kernel

theorem witness_ArmingIsAWriteOfGate : fresh.phase = .idle := by decide +kernel

theorem witness_CtxrdReturnsTheRegister :
    fresh.msq.length < 2 ^ 32 ∧ fresh.cfg.t1 < 2 ^ 32 ∧ fresh.cfg.ndc < 2 ^ 32 := by decide +kernel

/-- The last element and the first index past it. -/
theorem witness_MsqrdReturnsTheElement :
    (2 : Word32).toNat < ({ fresh with msq := [5, 5, 4] } : State).msq.length ∧
    ({ fresh with msq := [5, 5, 4] } : State).msq.length ≤ (3 : Word32).toNat := by decide +kernel

theorem witness_TerminationHappensOnce :
    (∀ i ∈ [Instr.beginInv 9, .sample 8 0, .endInv, .ctxwr .status 1, .ctxwr .nq 7],
      i.isCommand = true ∧ i ≠ .reset ∧ i ≠ .ctxwr .status 0) ∧
    ({ fresh with status := .terminated } : State).status = .terminated ∧
    (view (runInstrs [Instr.beginInv 9, .sample 8 0, .endInv, .ctxwr .status 1, .ctxwr .nq 7]
      { fresh with status := .terminated })).isSome = true := by decide +kernel

theorem witness_ErrorsChangeNothing :
    (view (exec .endInv fresh)).map (·.rsp.code) = some .errPhase ∧
    (view (exec (.sample 8 0) { fresh with phase := .stop })).map (·.rsp.code) = some .stopped ∧
    (view (exec (.ctxwr .gate 3) fresh)).map (·.rsp.code) = some .errDenied ∧
    (view (exec (.ctxrd .unmappedD) fresh)).map (·.rsp.code) = some .errRange := by decide +kernel

theorem witness_NoCommandFaults :
    Inv { opened with cmds := [0x82, 0x9] } ∧ (Instr.sample 8 0).isCommand = true ∧
    (∀ w ∈ [0x82, 0x9], w < 2 ^ commandWidth opened.cfg.num.sw) := by decide +kernel

theorem witness_ConfigNeverChanges :
    (view (step { running with cmds := [0x82] })).isSome = true ∧ (view (exec .reset running)).isSome = true := by
  decide +kernel

theorem witness_StepKeepsTheInvariant :
    Inv { opened with cmds := [0x82] } ∧ (view (step { opened with cmds := [0x82] })).isSome = true ∧
    Inv { high with n := 3, p := 2, cmds := [0x82] } ∧
    (view (step { high with n := 3, p := 2, cmds := [0x82] })).isSome = true :=
  ⟨by decide +kernel, by decide +kernel, by decide +kernel, by decide +kernel⟩

theorem witness_ConstructedMachinesMeetTheInvariant : exec (.construct smallParams) running = .next fresh :=
  next_of_view (by decide +kernel)

theorem witness_OnlySamplesMoveTheEstimators :
    (Instr.ctxwr .gate 1).isCommand = true ∧ Instr.ctxwr .gate 1 ≠ .reset ∧
    (∀ x y, Instr.ctxwr .gate 1 ≠ .sample x y) ∧ (view (exec (.ctxwr .gate 1) fresh)).isSome = true ∧
    opened.gate = .opened ∧ (view (exec (.sample 8 0) opened)).isSome = true :=
  ⟨rfl, nofun, fun _ _ => nofun, by decide +kernel, rfl, by decide +kernel⟩

/-- The two ends of the 16-bit range, and the integers just outside it. -/
theorem witness_DecInvertsEnc :
    small.num.inst = .exact ∧ small.num.sw = 16 ∧
    small.num.enc (-32768) = some 0x8000 ∧ small.num.enc 32767 = some 0x7FFF ∧ small.num.enc (-1) = some 0xFFFF ∧
    small.num.enc 32768 = none ∧ small.num.enc (-32769) = none ∧
    small.num.dec 0x8000 = -32768 ∧ small.num.enc (small.num.dec 0xFFFF) = some 0xFFFF := by decide +kernel

end Sys2Proof.Tests
end

/-! Scope: what MAG and AVG.THR compute, the encoded scalars of R99, and commands answered with an error. -/

namespace Sys2Proof

/-! ### The numerics record, NUM_exact and the open ones -/

theorem Numerics.mag_of_exact {N : Numerics} (h : N.inst = .exact) (z : IQ) : N.mag z = exactMag z.i z.q := by
  unfold Numerics.mag; rw [h]

theorem Numerics.mag_of_other {N : Numerics} {k : Nat} (h : N.inst = .other k) (z : IQ) :
    N.mag z = Config.otherMag k z.i z.q := by
  unfold Numerics.mag; rw [h]

theorem Numerics.tf_of_exact {N : Numerics} (h : N.inst = .exact) (x fraction : Scalar) :
    N.tf x fraction = x * fraction := by
  unfold Numerics.tf; rw [h]

theorem Numerics.enc_of_exact {N : Numerics} (h : N.inst = .exact) (x : Scalar) : N.enc x = exactEnc N.sw x := by
  unfold Numerics.enc; rw [h]

theorem Numerics.dec_of_exact {N : Numerics} (h : N.inst = .exact) (b : Nat) : N.dec b = exactDec N.sw b := by
  unfold Numerics.dec; rw [h]

/-! ### Two's complement (R99) -/

/-- The scalars with an SW-bit representation are the integers of the two's-complement range, each represented by its
residue modulo 2^SW. -/
theorem exactEnc_eq_some_iff {sw b : Nat} {x : Scalar} :
    exactEnc sw x = some b ↔
      ∃ v : Int, -(2 : Int) ^ sw ≤ 2 * v ∧ 2 * v < 2 ^ sw ∧ x = (v : Scalar) ∧ (v % 2 ^ sw).toNat = b := by
  simp only [exactEnc, Option.ite_none_right_eq_some, Option.some.injEq]
  constructor
  · rintro ⟨⟨hden, hlo, hhi⟩, hb⟩
    exact ⟨x.num, hlo, hhi, (Rat.coe_int_num_of_den_eq_one hden).symm, hb⟩
  · rintro ⟨v, hlo, hhi, rfl, hb⟩
    rw [Rat.num_intCast]
    exact ⟨⟨Rat.den_intCast v, hlo, hhi⟩, hb⟩

/-- `exactEnc_eq_some_iff` with the bounds of SW = 16 as numbers. -/
theorem exactEnc_sixteen_iff {b : Nat} {x : Scalar} :
    exactEnc 16 x = some b ↔
      ∃ v : Int, -32768 ≤ v ∧ v ≤ 32767 ∧ x = (v : Scalar) ∧ (v % 65536).toNat = b := by
  rw [exactEnc_eq_some_iff]
  refine exists_congr fun v => ?_
  norm_num only
  constructor <;> rintro ⟨hlo, hhi, hx, hb⟩ <;> exact ⟨by omega, by omega, hx, hb⟩

/-- An integer of 0..32767 is its own 16-bit word. -/
theorem exactEnc_sixteen_natCast {v : Nat} (h : v ≤ 32767) : exactEnc 16 (v : Scalar) = some v :=
  exactEnc_sixteen_iff.mpr ⟨v, by omega, by omega, (Int.cast_natCast v).symm, by omega⟩

/-- An integer of -32768..-1 is encoded as its value plus 2^16. -/
theorem exactEnc_sixteen_neg_natCast {v : Nat} (h0 : 1 ≤ v) (h : v ≤ 32768) :
    exactEnc 16 (-(v : Scalar)) = some (2 ^ 16 - v) :=
  exactEnc_sixteen_iff.mpr ⟨-v, by omega, by omega, by push_cast; rfl, by omega⟩

/-- Settles O60, from the range and the residues of `exactEnc_eq_some_iff`. -/
theorem decInvertsEnc : Obligations.DecInvertsEnc := by
  refine ⟨fun N x b h => ⟨Numerics.enc_lt h, Numerics.dec_enc h⟩, fun N b hb => ⟨N.enc_dec hb, fun he => ?_⟩,
    fun N x he hw => ?_, fun N v he hw => ?_⟩
  · rw [Numerics.enc_of_exact he, Numerics.dec_of_exact he, exactEnc_exactDec hb]
  · simp only [Numerics.enc_of_exact he, hw, exactEnc_sixteen_iff]
    constructor
    · rintro ⟨_, v, hlo, hhi, hx, -⟩
      exact ⟨v, hlo, hhi, hx⟩
    · rintro ⟨v, hlo, hhi, hx⟩
      exact ⟨_, v, hlo, hhi, hx, rfl⟩
  · simp only [Numerics.enc_of_exact he, hw]
    exact ⟨exactEnc_sixteen_natCast, exactEnc_sixteen_neg_natCast⟩

end Sys2Proof

namespace Sys2Proof.Machine

/-! ### The step's magnitude and threshold -/

/-- Settles O17: M is the magnitude of the numerics, which under NUM_exact is the root of I^2 + Q^2. -/
theorem magIsTheMagnitude : Obligations.MagIsTheMagnitude := by
  refine fun z s => ⟨s.cfg.num.mag z, rfl, fun he => ?_, fun k hk => Numerics.mag_of_other hk z⟩
  rw [Numerics.mag_of_exact he]
  exact ⟨exactMag_nonneg z.i z.q, fun _ => exactMag_of_square⟩

/-- Settles O19: THR is the fraction `tf` takes of AVG, which under NUM_exact is their product. -/
theorem thresholdIsAFractionOfTheMean : Obligations.ThresholdIsAFractionOfTheMean :=
  fun _ => ⟨rfl, fun he => Numerics.tf_of_exact he _ _⟩

/-! ### Answers with an error or STOPPED

Every command either completes with OK or DONE, or only answers: the state is the one before with a response that
carries nothing but its code. -/

/-- A next state, if there is one, answers OK or DONE, or is s with a plain response. -/
def CompletesOrOnlyAnswers (s : State) (r : StepResult) : Prop :=
  ∀ t, r = .next t → t.rsp.code = .ok ∨ t.rsp.code = .done ∨ t = s.respond (.plain t.rsp.code)

theorem completesOrOnlyAnswers_fault (s : State) (f : Fault) : CompletesOrOnlyAnswers s (.fault f) := by
  intro _ h
  cases h

theorem completesOrOnlyAnswers_respond_plain (s : State) (c : Code) :
    CompletesOrOnlyAnswers s (.next (s.respond (.plain c))) := by
  rintro _ ⟨⟩
  exact .inr (.inr rfl)

theorem completesOrOnlyAnswers_raise (s : State) (c : Code) : CompletesOrOnlyAnswers s (raise c s) :=
  completesOrOnlyAnswers_respond_plain s c

theorem completesOrOnlyAnswers_of_ok_or_done {s t : State} (h : t.rsp.code = .ok ∨ t.rsp.code = .done) :
    CompletesOrOnlyAnswers s (.next t) := by
  rintro _ ⟨⟩
  exact h.imp_right .inl

/-- Path (a) answers OK, with or without a detection (R228). -/
theorem State.closedPathEnd_rsp_code (s : State) (z : IQ) : (s.closedPathEnd z).rsp.code = .ok := by
  rw [State.closedPathEnd_eq]
  show (if s.detects = true then _ else _ : Response).code = .ok
  split <;> rfl

/-- Path (b) answers DONE with the window complete, else OK (R228). -/
theorem State.openPath_rsp_code (s : State) (z : IQ) :
    (s.openPath z).rsp.code = if s.fwdLen.toNat ≤ satInc s.n then .done else .ok := by
  rw [State.openPath_eq]

/-- A CTXWR in PHASE = IDLE writes and answers OK, or raises an error (R263). -/
theorem ctxWrite_cases (reg : CtxReg) (data : Word32) (s : State) :
    (∃ t, ctxWrite reg data s = ctxWritten t) ∨ ∃ c, ctxWrite reg data s = raise c s := by
  cases reg with
  | gate =>
    unfold ctxWrite
    cases gateRequest data with
    | some g => exact .inl ⟨_, rfl⟩
    | none => exact .inr ⟨_, rfl⟩
  | status =>
    unfold ctxWrite
    cases statusRequest data with
    | some st => exact .inl ⟨_, rfl⟩
    | none => exact .inr ⟨_, rfl⟩
  | nq | ntags | tsStart => exact .inl ⟨_, rfl⟩
  | _ => exact .inr ⟨_, rfl⟩

theorem execBegin_completesOrOnlyAnswers (now : Word32) (s : State) :
    CompletesOrOnlyAnswers s (execBegin now s) := by
  by_cases h : s.phase = .idle
  · rw [execBegin_idle now h]
    exact completesOrOnlyAnswers_of_ok_or_done (.inl rfl)
  · rw [execBegin_busy now h]
    exact completesOrOnlyAnswers_raise s _

theorem execSample_completesOrOnlyAnswers (i q : Scalar) (s : State) :
    CompletesOrOnlyAnswers s (execSample i q s) := by
  obtain ⟨-, e⟩ | ⟨-, e⟩ | ⟨-, -, e⟩ | ⟨-, -, e⟩ | ⟨-, -, -, e⟩ | ⟨-, -, a, -, -, e⟩ | ⟨-, -, a, b, -, e⟩ :=
    execSample_cases i q s <;> rw [e]
  · exact completesOrOnlyAnswers_respond_plain s _
  · exact completesOrOnlyAnswers_respond_plain s _
  · exact completesOrOnlyAnswers_of_ok_or_done (.inl rfl)
  · exact completesOrOnlyAnswers_fault s _
  · exact completesOrOnlyAnswers_fault s _
  · refine completesOrOnlyAnswers_of_ok_or_done ?_
    rw [State.openPath_rsp_code]
    split <;> simp
  · exact completesOrOnlyAnswers_of_ok_or_done (.inl (State.closedPathEnd_rsp_code _ _))

theorem execEnd_completesOrOnlyAnswers (s : State) : CompletesOrOnlyAnswers s (execEnd s) := by
  by_cases h : s.phase = .idle
  · rw [execEnd_idle h]
    exact completesOrOnlyAnswers_raise s _
  · rw [execEnd_busy h]
    exact completesOrOnlyAnswers_of_ok_or_done (.inl rfl)

theorem execCtxwr_completesOrOnlyAnswers (reg : CtxReg) (data : Word32) (s : State) :
    CompletesOrOnlyAnswers s (execCtxwr reg data s) := by
  by_cases h : s.phase = .idle
  · rw [execCtxwr_idle reg data h]
    obtain ⟨t, e⟩ | ⟨c, e⟩ := ctxWrite_cases reg data s <;> rw [e]
    · exact completesOrOnlyAnswers_of_ok_or_done (.inl rfl)
    · exact completesOrOnlyAnswers_raise s c
  · rw [execCtxwr_busy reg data h]
    exact completesOrOnlyAnswers_raise s _

theorem execCtxrd_completesOrOnlyAnswers (reg : CtxReg) (s : State) :
    CompletesOrOnlyAnswers s (execCtxrd reg s) := by
  unfold execCtxrd
  cases s.ctx reg with
  | some d => exact completesOrOnlyAnswers_of_ok_or_done (.inl rfl)
  | none => exact completesOrOnlyAnswers_raise s _

theorem execMsqrd_completesOrOnlyAnswers (idx : Word32) (s : State) :
    CompletesOrOnlyAnswers s (execMsqrd idx s) := by
  unfold execMsqrd
  cases s.msqRead idx.toNat with
  | some v => exact completesOrOnlyAnswers_of_ok_or_done (.inl rfl)
  | none => exact completesOrOnlyAnswers_raise s _

/-- No command both changes the state and answers an error (R290, R300). -/
theorem exec_completesOrOnlyAnswers {i : Instr} (s : State) (hi : i.isCommand = true) :
    CompletesOrOnlyAnswers s (exec i s) := by
  cases i with
  | nop => exact completesOrOnlyAnswers_of_ok_or_done (.inl rfl)
  | beginInv now => exact execBegin_completesOrOnlyAnswers now s
  | sample i q => exact execSample_completesOrOnlyAnswers i q s
  | endInv => exact execEnd_completesOrOnlyAnswers s
  | ctxwr reg data => exact execCtxwr_completesOrOnlyAnswers reg data s
  | ctxrd reg => exact execCtxrd_completesOrOnlyAnswers reg s
  | msqrd idx => exact execMsqrd_completesOrOnlyAnswers idx s
  | reset => exact completesOrOnlyAnswers_of_ok_or_done (.inl rfl)
  | reserved op => exact completesOrOnlyAnswers_raise s _
  | armEpc => exact execCtxwr_completesOrOnlyAnswers .gate 1 s
  | armRn16 => exact execCtxwr_completesOrOnlyAnswers .gate 2 s
  | _ => exact absurd hi Bool.false_ne_true

/-- Settles O54: a command that neither completes with OK nor with DONE has only answered. -/
theorem errorsChangeNothing : Obligations.ErrorsChangeNothing := by
  rintro i s t hi ht ⟨hok, hdone⟩
  obtain h | h | h := exec_completesOrOnlyAnswers s hi t ht
  · exact absurd h hok
  · exact absurd h hdone
  · exact h

end Sys2Proof.Machine

/-! Scope: what one command can do to the state, and what every step keeps: the invariant of R47, and under NUM_exact
the running means (R144, R164). Also GATE.FWD (R204). -/

namespace Sys2Proof

/-! ### Rational arithmetic under NUM_exact -/

theorem Numerics.add_of_exact {N : Numerics} (h : N.inst = .exact) (a b : Scalar) : N.add a b = a + b := by
  unfold Numerics.add; rw [h]

theorem Numerics.sub_of_exact {N : Numerics} (h : N.inst = .exact) (a b : Scalar) : N.sub a b = a - b := by
  unfold Numerics.sub; rw [h]

theorem Numerics.divn_of_exact {N : Numerics} (h : N.inst = .exact) (a : Scalar) (n : Nat) :
    N.divn a n = a / (n : Scalar) := by
  unfold Numerics.divn; rw [h]

/-- Replacing one element moves the mean by the difference over the capacity (R144, R164). -/
theorem mean_set {l : List Scalar} {i n : Nat} {old : Scalar} (v : Scalar) (h : l[i]? = some old) :
    (l.set i v).sum / (n : Scalar) = l.sum / n + (v - old) / n := by
  obtain ⟨hi, rfl⟩ := List.getElem?_eq_some_iff.mp h
  rw [List.sum_set', dif_pos hi]
  ring

/-- The incremental update of R141 and R161 follows the mean, where it is exact. -/
theorem Numerics.incremental_mean {N : Numerics} (he : N.inst = .exact) {l : List Scalar} {i n : Nat} {avg old : Scalar}
    (v : Scalar) (h : l[i]? = some old) (hm : avg = l.sum / (n : Scalar)) :
    N.add avg (N.divn (N.sub v old) n) = (l.set i v).sum / (n : Scalar) := by
  rw [Numerics.add_of_exact he, Numerics.divn_of_exact he, Numerics.sub_of_exact he, mean_set v h, hm]

end Sys2Proof

namespace Sys2Proof.Machine

/-! ### What one command can do -/

/-- The results of a command, by what they write (R101, R226 to R235, R263, R320). A fault needs memories that have lost
their form (R68). -/
inductive CommandResult (s : State) : StepResult → Prop
  /-- Only the response changes: NOP, a read, an error, a SAMPLE in STOP. -/
  | answered (r : Response) : CommandResult s (.next (s.respond r))
  /-- CTXWR: the HOST writes its registers in IDLE, GATE with a request only (R263). -/
  | written (g : Gate) (st : Status) (nq ntags ts : Word32) : s.phase = .idle →
      g = s.gate ∨ g = .seekEpc ∨ g = .seekRn16 →
      CommandResult s (.next ({ s with gate := g, status := st, nq := nq, ntags := ntags, tsStart := ts }.respond
        (.plain .ok)))
  /-- BEGIN in IDLE (R226). -/
  | begun (now : Word32) : s.phase = .idle →
      CommandResult s (.next (((s.termChk now).gateArm.startInvocation).respond (.plain .ok)))
  /-- END in RUN or STOP (R234). -/
  | ended (r : Response) : s.phase ≠ .idle → CommandResult s (.next ({ s with phase := .idle }.respond r))
  /-- RESET (R320). -/
  | reset : CommandResult s (.next { State.constructed s.cfg with cmds := s.cmds })
  /-- A SAMPLE consumed and no more (R232). -/
  | drained : s.phase = .run → CommandResult s (.next (s.consume.respond (.plain .ok)))
  /-- A processed SAMPLE with the gate OPEN, path (b) of R228. -/
  | forwarded (z : IQ) (a : Scalar) : Processing s → s.gate = .opened → s.wi < s.cfg.navg → s.win[s.wi]? = some a →
      CommandResult s (.next ((s.averaged z a).openPath z))
  /-- A processed SAMPLE with the gate not OPEN, path (a) of R228. -/
  | estimated (z : IQ) (a : Scalar) (b : IQ) : Processing s → s.gate ≠ .opened → RingsReadable s a b →
      CommandResult s (.next (((s.averaged z a).estimated z b).edgeStep.closedPathEnd z))
  /-- A SAMPLE that finds an index outside its ring. -/
  | faulted (f : Fault) : Memory.wf s ≠ true → CommandResult s (.fault f)

theorem gateRequest_cases {data : Word32} {g : Gate} (h : gateRequest data = some g) :
    g = .seekEpc ∨ g = .seekRn16 := by
  unfold gateRequest at h
  split at h
  · exact .inl (Option.some.inj h).symm
  · split at h
    · exact .inr (Option.some.inj h).symm
    · cases h

theorem ctxWrite_result (reg : CtxReg) (data : Word32) {s : State} (hph : s.phase = .idle) :
    CommandResult s (ctxWrite reg data s) := by
  cases reg with
  | gate =>
    unfold ctxWrite
    cases hg : gateRequest data with
    | some g => exact .written g s.status s.nq s.ntags s.tsStart hph (.inr (gateRequest_cases hg))
    | none => exact .answered _
  | status =>
    unfold ctxWrite
    cases statusRequest data with
    | some st => exact .written s.gate st s.nq s.ntags s.tsStart hph (.inl rfl)
    | none => exact .answered _
  | nq => exact .written s.gate s.status data s.ntags s.tsStart hph (.inl rfl)
  | ntags => exact .written s.gate s.status s.nq data s.tsStart hph (.inl rfl)
  | tsStart => exact .written s.gate s.status s.nq s.ntags data hph (.inl rfl)
  | _ => exact .answered _

theorem execCtxwr_result (reg : CtxReg) (data : Word32) (s : State) : CommandResult s (execCtxwr reg data s) := by
  by_cases h : s.phase = .idle
  · rw [execCtxwr_idle reg data h]
    exact ctxWrite_result reg data h
  · rw [execCtxwr_busy reg data h]
    exact .answered _

theorem execBegin_result (now : Word32) (s : State) : CommandResult s (execBegin now s) := by
  by_cases h : s.phase = .idle
  · rw [execBegin_idle now h]
    exact .begun now h
  · rw [execBegin_busy now h]
    exact .answered _

theorem execEnd_result (s : State) : CommandResult s (execEnd s) := by
  by_cases h : s.phase = .idle
  · rw [execEnd_idle h]
    exact .answered _
  · rw [execEnd_busy h]
    exact .ended _ h

/-- Memories with an index outside its ring have lost their form (R68). -/
theorem not_wf_of_index_outside {s : State}
    (h : s.cfg.navg ≤ s.wi ∨ s.win.length ≤ s.wi ∨ s.cfg.ndc ≤ s.di ∨ s.dcw.length ≤ s.di) : Memory.wf s ≠ true := by
  rw [Ne, Memory.wf_iff]
  omega

theorem execSample_result (i q : Scalar) (s : State) : CommandResult s (execSample i q s) := by
  obtain ⟨-, e⟩ | ⟨-, e⟩ | ⟨hrun, -, e⟩ | ⟨-, hout, e⟩ | ⟨-, -, hout, e⟩ | ⟨hp, hg, a, hi, ha, e⟩ |
    ⟨hp, hg, a, b, hr, e⟩ := execSample_cases i q s <;> rw [e]
  · exact .answered _
  · exact .answered _
  · exact .drained hrun
  · exact .faulted _ (not_wf_of_index_outside (by omega))
  · exact .faulted _ (not_wf_of_index_outside (by omega))
  · exact .forwarded _ a hp hg hi ha
  · exact .estimated _ a b hp hg hr

theorem execCtxrd_result (reg : CtxReg) (s : State) : CommandResult s (execCtxrd reg s) := by
  unfold execCtxrd
  cases s.ctx reg <;> exact .answered _

theorem execMsqrd_result (idx : Word32) (s : State) : CommandResult s (execMsqrd idx s) := by
  unfold execMsqrd
  cases s.msqRead idx.toNat <;> exact .answered _

/-- Every command has one of these results. -/
theorem exec_result {i : Instr} (s : State) (hi : i.isCommand = true) : CommandResult s (exec i s) := by
  cases i with
  | nop => exact .answered _
  | beginInv now => exact execBegin_result now s
  | sample i q => exact execSample_result i q s
  | endInv => exact execEnd_result s
  | ctxwr reg data => exact execCtxwr_result reg data s
  | ctxrd reg => exact execCtxrd_result reg s
  | msqrd idx => exact execMsqrd_result idx s
  | reset => exact .reset
  | reserved op => exact .answered _
  | armEpc => exact execCtxwr_result .gate 1 s
  | armRn16 => exact execCtxwr_result .gate 2 s
  | _ => exact absurd hi Bool.false_ne_true

/-- A property that does not read the waiting words, and that every command keeps, every step keeps. -/
theorem step_keeps {Good : State → Prop} (hcmds : ∀ s cmds, Good s → Good { s with cmds := cmds })
    (hcommand : ∀ s t, Good s → CommandResult s (.next t) → Good t) {s t : State} (h : Good s)
    (ht : step s = .next t) : Good t := by
  obtain ⟨-, rfl⟩ | ⟨w, rest, i, -, -, hi, he⟩ := step_cases ht
  · exact h
  · exact hcommand _ t (hcmds s rest h) (he ▸ exec_result _ hi)

/-! ### The running means of NUM_exact (R144, R164) -/

theorem State.constructed_means (c : Config) : MeansOk (State.constructed c) := by
  intro _
  simp [State.constructed, IQ.zero]

theorem State.averaged_means {s : State} (h : MeansOk s) (z : IQ) {a : Scalar} (ha : s.win[s.wi]? = some a) :
    MeansOk (s.averaged z a) := by
  intro he
  obtain ⟨havg, hdc⟩ := h he
  exact ⟨Numerics.incremental_mean he _ ha havg, hdc⟩

theorem State.estimated_means {s : State} (h : MeansOk s) (z : IQ) {b : IQ} (hb : s.dcw[s.di]? = some b) :
    MeansOk (s.estimated z b) := by
  intro he
  obtain ⟨havg, hi, hq⟩ := h he
  refine ⟨havg, ?_, ?_⟩ <;> simp only [State.estimated, List.map_set]
  · exact Numerics.incremental_mean he _ (by simp [hb]) hi
  · exact Numerics.incremental_mean he _ (by simp [hb]) hq

theorem State.edgeStep_means {s : State} (h : MeansOk s) : MeansOk s.edgeStep := by
  rw [State.edgeStep_eq]; exact h

theorem State.closedPathEnd_means {s : State} (h : MeansOk s) (z : IQ) : MeansOk (s.closedPathEnd z) := by
  rw [State.closedPathEnd_eq]; exact h

theorem State.openPath_means {s : State} (h : MeansOk s) (z : IQ) : MeansOk (s.openPath z) := by
  rw [State.openPath_eq]; exact h

theorem State.begin_means {s : State} (h : MeansOk s) (now : Word32) :
    MeansOk ((s.termChk now).gateArm.startInvocation) := by
  rw [State.gateArm_eq, State.termChk_eq]; exact h

theorem commandResult_means {s t : State} (h : MeansOk s) (ht : CommandResult s (.next t)) : MeansOk t := by
  cases ht with
  | answered r => exact h
  | written g st nq ntags ts hph hg => exact h
  | begun now hph => exact State.begin_means h now
  | ended r hph => exact h
  | reset => exact State.constructed_means s.cfg
  | drained hrun => exact h
  | forwarded z a hp hg hi ha => exact State.openPath_means (State.averaged_means h z ha) z
  | estimated z a b hp hg hr =>
    obtain ⟨-, ha, -, hb⟩ := hr
    exact State.closedPathEnd_means (State.edgeStep_means (State.estimated_means (State.averaged_means h z ha) z hb)) z

/-- Settles O20: of the results of a command only those of a processed SAMPLE move the estimators, and each replaces one
element by the increment that keeps the mean. -/
theorem stepKeepsTheRunningMeans : Obligations.StepKeepsTheRunningMeans :=
  fun _ _ _ hm ht => step_keeps (fun _ _ h => h) (fun _ _ => commandResult_means) hm ht

/-! ### The invariant of the reachable states (R47) -/

/-- The invariant as it holds within a step, where `work` still carries the step's values. -/
structure InvWithinStep (s : State) : Prop where
  config : ConfigOk s.cfg
  memory : Memory.wf s = true
  counters : CountersOk s
  phase : PhaseOk s
  window : WindowOk s

theorem Inv.withinStep {s : State} (h : Inv s) : InvWithinStep s := by
  obtain ⟨hc, hm, hn, hp, hw, -⟩ := h
  exact ⟨hc, hm, hn, hp, hw⟩

theorem InvWithinStep.inv {s : State} (h : InvWithinStep s) (hwork : s.work = .clear) : Inv s :=
  ⟨h.config, h.memory, h.counters, h.phase, h.window, hwork⟩

/-- An open window is complete before N saturates, since FWD_LEN is a 32-bit register (R27, R34). -/
theorem State.satInc_of_open {s : State} (h : InvWithinStep s) (hg : s.gate = .opened) : satInc s.n = s.n + 1 := by
  obtain ⟨-, hn, -⟩ := h.window.2 hg
  have hlen := s.fwdLen.isLt
  exact satInc_of_lt (by omega)

/-- The buffer holds every window that can be armed (R63, R126). -/
theorem State.window_le_msqCap {s : State} (h : InvWithinStep s) : max s.fwdLen.toNat 2 ≤ s.cfg.msqCap := by
  obtain ⟨-, -, -, -, hcap⟩ := h.config
  have hlen := h.window.1
  omega

theorem State.averaged_invWithinStep {s : State} (h : InvWithinStep s) (z : IQ) (a : Scalar) :
    InvWithinStep (s.averaged z a) := by
  obtain ⟨hc, hm, hn, hp, hw⟩ := h
  refine ⟨hc, ?_, hn, hp, hw⟩
  rw [Memory.wf_iff] at hm ⊢
  obtain ⟨hwin, hwi, hrest⟩ := hm
  exact ⟨(List.length_set ..).trans hwin, Nat.mod_lt _ (by omega), hrest⟩

theorem State.estimated_invWithinStep {s : State} (h : InvWithinStep s) (z b : IQ) (hg : s.gate ≠ .opened) :
    InvWithinStep (s.estimated z b) := by
  obtain ⟨hc, hm, ⟨hn, hcount⟩, hp, hlen, -⟩ := h
  refine ⟨hc, ?_, ⟨satInc_le_cntMax hn, hcount⟩, hp, hlen, fun hopen => absurd hopen hg⟩
  rw [Memory.wf_iff] at hm ⊢
  obtain ⟨hwin, hwi, hdcw, hdi, hmsq⟩ := hm
  exact ⟨hwin, hwi, (List.length_set ..).trans hdcw, Nat.mod_lt _ (by omega), hmsq⟩

theorem State.edgeStep_invWithinStep {s : State} (h : InvWithinStep s) (hg : s.gate ≠ .opened) :
    InvWithinStep s.edgeStep := by
  obtain ⟨hc, hm, ⟨hn, hpulses, hcount⟩, hp, hlen, -⟩ := h
  obtain ⟨-, e⟩ | ⟨-, e⟩ | ⟨-, -, e⟩ := s.edgeStep_cases <;> rw [e]
  · exact ⟨hc, hm, ⟨Nat.zero_le _, hpulses, hcount⟩, hp, hlen, fun hopen => absurd hopen hg⟩
  · refine ⟨hc, hm, ⟨Nat.zero_le _, ?_, hcount⟩, hp, hlen, fun hopen => absurd hopen hg⟩
    show (if s.validPulse = true then satInc s.p else 0) ≤ cntMax
    split
    · exact satInc_le_cntMax hpulses
    · exact Nat.zero_le _
  · exact ⟨hc, hm, ⟨hn, hpulses, hcount⟩, hp, hlen, fun hopen => absurd hopen hg⟩

/-- A detection opens a window of one sample, in which MSQ holds at most that sample (R180, R203). -/
theorem State.closedPathEnd_inv {s : State} (h : InvWithinStep s) (z : IQ) (hrun : s.phase = .run)
    (hg : s.gate ≠ .opened) : Inv (s.closedPathEnd z) := by
  have hcap := s.window_le_msqCap h
  have hone : 1 ≤ cntMax := by decide
  have hroom : 1 ≤ s.cfg.msqCap := by omega
  obtain ⟨hc, hm, ⟨hn, hpulses, hcount⟩, hp, hlen, -⟩ := h
  rw [State.closedPathEnd_eq]
  cases hd : s.detects with
  | false =>
    exact ⟨hc, hm, ⟨hn, hpulses, Nat.le_succ_of_le hcount⟩, hp, ⟨hlen, fun hopen => absurd hopen hg⟩, rfl⟩
  | true =>
    have hmsq (v : Scalar) : (if s.cfg.triggerAppendsMsq then [v] else []).length ≤ 1 := by split <;> simp
    obtain ⟨hwin, hwi, hdcw, hdi, -⟩ := Memory.wf_iff.mp hm
    refine InvWithinStep.inv
      { config := hc
        memory := Memory.wf_iff.mpr ⟨hwin, hwi, hdcw, hdi, (hmsq _).trans hroom⟩
        counters := ⟨hone, Nat.zero_le _, Nat.succ_le_succ hcount⟩
        phase := ⟨fun _ => by simp, fun hstop => ?notStopped⟩
        window := ⟨hlen, fun _ => ⟨le_rfl, ?incomplete, hmsq _⟩⟩ } rfl
    case notStopped => cases hrun.symm.trans hstop
    case incomplete =>
      show 1 < max s.fwdLen.toNat 2
      omega

/-- A forwarded sample finds room in MSQ, and the window stays incomplete or the invocation stops with the gate closed
(R63, R204, R206). -/
theorem State.openPath_inv {s : State} (h : InvWithinStep s) (z : IQ) (hrun : s.phase = .run)
    (hg : s.gate = .opened) : Inv (s.openPath z) := by
  have hsat := s.satInc_of_open h hg
  have hcap := s.window_le_msqCap h
  obtain ⟨hc, hm, ⟨hn, hpulses, hcount⟩, -, hlen, hw⟩ := h
  obtain ⟨-, hlt, hmsq⟩ := hw hg
  have hroom : s.n + 1 ≤ s.cfg.msqCap := by omega
  obtain ⟨hwin, hwi, hdcw, hdi, -⟩ := Memory.wf_iff.mp hm
  have hmsq' (v : Scalar) : (s.msq ++ [v]).length ≤ s.n + 1 := by simpa using hmsq
  rw [State.openPath_eq, hsat]
  refine InvWithinStep.inv
    { config := hc
      memory := Memory.wf_iff.mpr ⟨hwin, hwi, hdcw, hdi, (hmsq' _).trans hroom⟩
      counters := ⟨hsat ▸ satInc_le_cntMax hn, hpulses, Nat.succ_le_succ hcount⟩
      phase := ?phase
      window := ⟨hlen, ?window⟩ } rfl
  case phase => by_cases hdone : s.fwdLen.toNat ≤ s.n + 1 <;> simp [PhaseOk, hdone, hg, hrun]
  case window =>
    by_cases hdone : s.fwdLen.toNat ≤ s.n + 1
    · simp [hdone]
    · refine fun _ => ⟨Nat.le_add_left .., ?_, hmsq' _⟩
      show s.n + 1 < max s.fwdLen.toNat 2
      omega

theorem State.respond_inv {s : State} (h : Inv s) (r : Response) : Inv (s.respond r) := h

theorem State.termChk_inv {s : State} (h : Inv s) (now : Word32) : Inv (s.termChk now) := by
  rw [State.termChk_eq]; exact h

theorem State.armed_inv {s : State} (h : Inv s) {len : Nat} (hlen : len = s.cfg.lEpc ∨ len = s.cfg.lRn16) :
    Inv (s.armed len) := by
  obtain ⟨-, -, ⟨-, -, hEpc, hRn16, -⟩, -⟩ := h.withinStep.config
  obtain ⟨hc, hm, ⟨-, hcount⟩, -, -, hwork⟩ := h
  have hfits : (regWord len).toNat = len := by
    refine regWord_toNat ?_
    unfold cntMax at hEpc hRn16
    omega
  exact ⟨hc, hm, ⟨Nat.zero_le _, hcount⟩, ⟨fun _ => by simp, fun _ => rfl⟩, ⟨.inr (by simpa [hfits]), by simp⟩,
    hwork⟩

/-- GATE.ARM keeps the invariant and leaves no request behind (R201). -/
theorem State.gateArm_inv {s : State} (h : Inv s) :
    Inv s.gateArm ∧ s.gateArm.gate ≠ .seekEpc ∧ s.gateArm.gate ≠ .seekRn16 := by
  unfold State.gateArm
  cases hg : s.gate with
  | seekEpc => exact ⟨s.armed_inv h (.inl rfl), by simp⟩
  | seekRn16 => exact ⟨s.armed_inv h (.inr rfl), by simp⟩
  | closed => exact ⟨h, by simp [hg]⟩
  | opened => exact ⟨h, by simp [hg]⟩

theorem State.startInvocation_inv {s : State} (h : Inv s) (hg : s.gate ≠ .seekEpc ∧ s.gate ≠ .seekRn16) :
    Inv s.startInvocation := by
  obtain ⟨hc, hm, ⟨hn, hpulses, -⟩, -, hw, hwork⟩ := h
  exact ⟨hc, hm, ⟨hn, hpulses, le_rfl⟩, ⟨fun _ => hg, nofun⟩, hw, hwork⟩

theorem State.begin_inv {s : State} (h : Inv s) (now : Word32) : Inv ((s.termChk now).gateArm.startInvocation) := by
  obtain ⟨harm, hg⟩ := State.gateArm_inv (s.termChk_inv h now)
  exact State.startInvocation_inv harm hg

/-- A machine in the reset state meets the invariant, if its configuration is one that construction lets pass. -/
theorem State.constructed_inv {c : Config} (hc : ConfigOk c) : Inv (State.constructed c) := by
  obtain ⟨-, -, -, hnavg, hndc⟩ := hc.1
  exact ⟨hc, State.constructed_wf hnavg hndc, ⟨Nat.zero_le _, Nat.zero_le _, le_rfl⟩, ⟨fun h => absurd rfl h, nofun⟩,
    ⟨.inl rfl, nofun⟩, rfl⟩

/-- In IDLE the HOST may write any request: only during an invocation must none stand (R47, R263). -/
theorem State.hostWrite_inv {s : State} (h : Inv s) (g : Gate) (st : Status) (nq ntags ts : Word32)
    (hph : s.phase = .idle) (hg : g = s.gate ∨ g = .seekEpc ∨ g = .seekRn16) :
    Inv { s with gate := g, status := st, nq := nq, ntags := ntags, tsStart := ts } := by
  obtain ⟨hc, hm, hn, -, ⟨hlen, hw⟩, hwork⟩ := h
  refine ⟨hc, hm, hn, ⟨fun hbusy => absurd hph hbusy, fun hstop => ?_⟩, ⟨hlen, ?_⟩, hwork⟩
  · cases hph.symm.trans hstop
  · obtain rfl | rfl | rfl := hg
    · exact hw
    · exact nofun
    · exact nofun

theorem State.end_inv {s : State} (h : Inv s) : Inv { s with phase := .idle } := by
  obtain ⟨hc, hm, hn, -, hw, hwork⟩ := h
  exact ⟨hc, hm, hn, ⟨fun hbusy => absurd rfl hbusy, nofun⟩, hw, hwork⟩

theorem State.consume_inv {s : State} (h : Inv s) : Inv s.consume := by
  obtain ⟨hc, hm, ⟨hn, hpulses, hcount⟩, hp, hw, hwork⟩ := h
  exact ⟨hc, hm, ⟨hn, hpulses, Nat.le_succ_of_le hcount⟩, hp, hw, hwork⟩

theorem commandResult_inv {s t : State} (h : Inv s) (ht : CommandResult s (.next t)) : Inv t := by
  have hstep := h.withinStep
  cases ht with
  | answered r => exact State.respond_inv h r
  | written g st nq ntags ts hph hg => exact State.respond_inv (State.hostWrite_inv h g st nq ntags ts hph hg) _
  | begun now hph => exact State.respond_inv (State.begin_inv h now) _
  | ended r hph => exact State.respond_inv (State.end_inv h) r
  | reset => exact State.constructed_inv hstep.config
  | drained hrun => exact State.respond_inv (State.consume_inv h) _
  | forwarded z a hp hg hi ha => exact State.openPath_inv (State.averaged_invWithinStep hstep z a) z hp.1 hg
  | estimated z a b hp hg hr =>
    have hest := State.estimated_invWithinStep (State.averaged_invWithinStep hstep z a) z b hg
    refine State.closedPathEnd_inv (State.edgeStep_invWithinStep hest hg) z ?_ ?_ <;> rw [State.edgeStep_eq]
    · exact hp.1
    · exact hg

/-- Settles O57: every result of a command that is a next state meets the invariant again. -/
theorem stepKeepsTheInvariant : Obligations.StepKeepsTheInvariant :=
  fun _ _ h ht => step_keeps (fun _ _ h => h) (fun _ _ => commandResult_inv) h ht

/-! ### No fault in a reachable state (R297) -/

theorem exec_next_of_wf {i : Instr} {s : State} (h : Memory.wf s = true) (hi : i.isCommand = true) :
    ∃ t, exec i s = .next t := by
  have hr := exec_result s hi
  generalize exec i s = r at hr ⊢
  cases hr with
  | faulted f hout => exact absurd h hout
  | _ => exact ⟨_, rfl⟩

theorem step_of_no_command {s : State} (h : s.cmds = []) : step s = .next s := by
  unfold step State.nextCommand; rw [h]

theorem step_of_decode {s : State} {w : Nat} {rest : List Nat} {i : Instr} (h : s.cmds = w :: rest)
    (hd : decode s.cfg.num w = .ok i) : step s = exec i { s with cmds := rest } := by
  unfold step State.nextCommand; rw [h]; simp only [hd]

/-- Settles O55: the memories of a state of the invariant have their form, and a port word always decodes. -/
theorem noCommandFaults : Obligations.NoCommandFaults := by
  refine ⟨fun i s h hi => exec_next_of_wf h.withinStep.memory hi, fun s h hport => ?_⟩
  cases hc : s.cmds with
  | nil => exact ⟨s, step_of_no_command hc⟩
  | cons w rest =>
    have hd := decode_of_lt (hport w (hc ▸ List.mem_cons_self))
    rw [StepsOn, step_of_decode hc hd]
    exact exec_next_of_wf h.withinStep.memory (decode_isCommand hd)

/-! ### Constructed machines (R120, R123, R126) -/

/-- A construction that answers a configuration passed both lists of checks. -/
theorem construct_ok {p : Params} {c : Config} (h : construct p = .ok c) :
    ∃ counts, c = configOf p counts ∧ firstFailure (countChecks counts) = none ∧
      firstFailure (otherChecks p c) = none := by
  unfold construct at h
  split at h
  · cases h
  · next counts _ =>
    split at h
    · cases h
    · next hcounts =>
      split at h
      · cases h
      · next hother => cases h; exact ⟨counts, rfl, hcounts, hother⟩

theorem construct_configOk {p : Params} {c : Config} (h : construct p = .ok c) : ConfigOk c := by
  obtain ⟨counts, rfl, hcounts, hother⟩ := construct_ok h
  obtain ⟨-, hpre, hepc, hrn, hmq, htt, ht1, hpw, hlEpc, hlRn16, hmin, hcap⟩ := (otherChecks_pass_iff p _).mp hother
  refine ⟨(countChecks_pass_iff counts).mp hcounts, ⟨rfl, rfl⟩, ⟨ht1, hpw, hlEpc, hlRn16, hmin⟩, ?_, hcap⟩
  simp only [configOf]
  omega

theorem configDefault_ok : ConfigOk Config.default := by decide

/-- CONSTRUCT answers a next state only with a configuration that passed (R120, R291). -/
theorem execConstruct_next {p : Params} {s t : State} (h : execConstruct p s = .next t) :
    ∃ c, construct p = .ok c ∧ t = { State.constructed c with cmds := s.cmds } := by
  unfold execConstruct at h
  cases hc : construct p with
  | error name => rw [hc] at h; cases h
  | ok c => rw [hc] at h; cases h; exact ⟨c, rfl, rfl⟩

/-- Settles O58: construction checks what the invariant asks of the configuration, and the windows of zeros have the
mean zero. -/
theorem constructedMachinesMeetTheInvariant : Obligations.ConstructedMachinesMeetTheInvariant := by
  refine ⟨⟨State.constructed_inv configDefault_ok, State.constructed_means _⟩, fun p s t h => ?_⟩
  obtain ⟨c, hc, rfl⟩ := execConstruct_next h
  exact ⟨State.constructed_inv (construct_configOk hc), State.constructed_means c⟩

/-! ### GATE.FWD (R204) -/

/-- Settles O34: `gateFwd_eq`, with the saturating count written out. -/
theorem gateFwdForwardsTheCorrectedSample : Obligations.GateFwdForwardsTheCorrectedSample := by
  intro z s
  have hsat : satInc s.n = if s.n < 2 ^ 32 - 1 then s.n + 1 else s.n := rfl
  refine ⟨s.cfg.num.csub z s.dc, s.cfg.num.msq (s.cfg.num.csub z s.dc), rfl, rfl, ?_⟩
  rw [← hsat, ← State.gateFwd_eq]
  rfl

end Sys2Proof.Machine

namespace Sys2Proof.Machine

/-! ### The oldest command (R69, R73, R307) -/

/-- Settles O6: a step with a decoded oldest word, and a step with no command. -/
theorem stepPerformsTheDecodedCommand : Obligations.StepPerformsTheDecodedCommand :=
  ⟨fun _ _ _ _ => step_of_decode, fun _ => step_of_no_command⟩

/-! ### Indices outside their rings (R68) -/

theorem State.avgUpd_eq_none {s : State} : s.avgUpd = none ↔ s.cfg.navg ≤ s.wi ∨ s.win.length ≤ s.wi := by
  rw [← State.readWin_eq_none]
  cases h : s.readWin s.wi <;> simp [State.avgUpd, h]

theorem State.dcUpd_eq_none {s : State} {z : IQ} :
    s.dcUpd z = none ↔ s.cfg.ndc ≤ s.di ∨ s.dcw.length ≤ s.di := by
  rw [← State.readDcw_eq_none]
  cases h : s.readDcw s.di <;> simp [State.dcUpd, h]

theorem exec_avgUpd_of_none {s : State} (h : s.avgUpd = none) : exec .avgUpd s = .fault .noWinElement := by
  simp only [exec, execAvgUpd, h]

theorem exec_dcUpd_of_none {s : State} {z : IQ} (h : s.dcUpd z = none) :
    exec (.dcUpd z) s = .fault .noDcwElement := by
  simp only [exec, execDcUpd, h]

/-- Settles O25: each update finds no element exactly when its index is outside its ring, and then faults. -/
theorem indexOutsideARingFaults : Obligations.IndexOutsideARingFaults :=
  ⟨fun _ h => exec_avgUpd_of_none (State.avgUpd_eq_none.mpr h),
    fun _ _ h => exec_dcUpd_of_none (State.dcUpd_eq_none.mpr h)⟩

end Sys2Proof.Machine

/-! Scope: the command words (R91 to R97, R105), the response words (R101), and INVOKE as a sequence of commands
(R236). -/

namespace Sys2Proof

/-! ### What the decoder reads, by the op of the word (R91 to R97) -/

theorem readCommand_nop {N : Numerics} {w : Nat} (h : w % 16 = 0) : readCommand N w = .nop := by
  simp only [readCommand, slice_op, h]

theorem readCommand_beginInv {N : Numerics} {w : Nat} (h : w % 16 = 1) :
    readCommand N w = .beginInv (BitVec.ofNat 32 (slice w 4 32)) := by
  simp only [readCommand, slice_op, h]

theorem readCommand_sample {N : Numerics} {w : Nat} (h : w % 16 = 2) :
    readCommand N w = .sample (N.dec (slice w 4 N.sw)) (N.dec (slice w (4 + N.sw) N.sw)) := by
  simp only [readCommand, slice_op, h]

theorem readCommand_endInv {N : Numerics} {w : Nat} (h : w % 16 = 3) : readCommand N w = .endInv := by
  simp only [readCommand, slice_op, h]

theorem readCommand_ctxwr {N : Numerics} {w : Nat} (h : w % 16 = 4) :
    readCommand N w = .ctxwr (.ofAddr (slice w 4 4)) (BitVec.ofNat 32 (slice w 8 32)) := by
  simp only [readCommand, slice_op, h]

theorem readCommand_ctxrd {N : Numerics} {w : Nat} (h : w % 16 = 5) :
    readCommand N w = .ctxrd (.ofAddr (slice w 4 4)) := by
  simp only [readCommand, slice_op, h]

theorem readCommand_msqrd {N : Numerics} {w : Nat} (h : w % 16 = 6) :
    readCommand N w = .msqrd (BitVec.ofNat 32 (slice w 8 32)) := by
  simp only [readCommand, slice_op, h]

theorem readCommand_reset {N : Numerics} {w : Nat} (h : w % 16 = 7) : readCommand N w = .reset := by
  simp only [readCommand, slice_op, h]

theorem readCommand_reserved {N : Numerics} {w : Nat} (h : 8 ≤ w % 16) :
    readCommand N w = .reserved (BitVec.ofNat 4 (w % 16)) := by
  unfold readCommand
  rw [slice_op]
  split
  case h_9 => rfl
  all_goals omega

/-- The ops that have a format of their own, and the reserved ones (R96, R97). -/
theorem op_cases (w : Nat) :
    w % 16 = 0 ∨ w % 16 = 1 ∨ w % 16 = 2 ∨ w % 16 = 3 ∨ w % 16 = 4 ∨ w % 16 = 5 ∨ w % 16 = 6 ∨ w % 16 = 7 ∨
      8 ≤ w % 16 := by
  omega

/-! ### Fields within a field -/

/-- A field of a field is a field of the word. -/
theorem slice_slice {w lo total k width : Nat} (h : k + width ≤ total) :
    slice (slice w lo total) k width = slice w (lo + k) width := by
  refine Nat.eq_of_testBit_eq fun j => ?_
  simp only [slice, Nat.testBit_mod_two_pow, Nat.testBit_shiftRight, Nat.add_assoc]
  by_cases hj : j < width
  · have : k + j < total := by omega
    simp [this]
  · simp [hj]

/-- Words that agree on a field agree on every part of it. -/
theorem slice_congr {v w lo total : Nat} (h : v / 2 ^ lo % 2 ^ total = w / 2 ^ lo % 2 ^ total) (k width : Nat)
    (hk : k + width ≤ total) : slice v (lo + k) width = slice w (lo + k) width := by
  rw [← slice_eq, ← slice_eq] at h
  rw [← slice_slice hk, ← slice_slice hk, h]

/-! ### The word of each command is read back -/

theorem wordC_op {op addr data : Nat} (ho : op < 16) : wordC op addr data % 16 = op := by
  unfold wordC; omega

theorem wordC_addr {op addr data : Nat} (ho : op < 16) (ha : addr < 16) : slice (wordC op addr data) 4 4 = addr :=
  slice_of_parts (rest := data) (lo := 4) (width := 4) ho ha

theorem wordC_data {op addr data : Nat} (ho : op < 16) (ha : addr < 16) (hd : data < 2 ^ 32) :
    slice (wordC op addr data) 8 32 = data := by
  have hlow : op + addr * 2 ^ 4 < 2 ^ 8 := by omega
  simpa [wordC] using slice_of_parts (rest := 0) hlow hd

theorem readCommand_beginInv_word (N : Numerics) (now : Word32) :
    readCommand N (0x1 + now.toNat * 2 ^ 4) = .beginInv now := by
  have hnow : slice (0x1 + now.toNat * 2 ^ 4) 4 32 = now.toNat := by
    simpa using slice_of_parts (low := 1) (rest := 0) (lo := 4) (by norm_num) now.isLt
  rw [readCommand_beginInv (by omega), hnow, BitVec.ofNat_toNat, BitVec.setWidth_eq]

theorem readCommand_sample_word {N : Numerics} {i q : Scalar} {a b : Nat} (hi : N.enc i = some a)
    (hq : N.enc q = some b) : readCommand N (0x2 + a * 2 ^ 4 + b * 2 ^ (4 + N.sw)) = .sample i q := by
  have ha := N.enc_lt hi
  have hop : (0x2 + a * 2 ^ 4 + b * 2 ^ (4 + N.sw)) % 16 = 2 := by rw [pow_add, Nat.mul_left_comm]; omega
  have hlow : 0x2 + a * 2 ^ 4 < 2 ^ (4 + N.sw) := by rw [pow_add]; omega
  have hfieldI : slice (0x2 + a * 2 ^ 4 + b * 2 ^ (4 + N.sw)) 4 N.sw = a := slice_of_parts (by norm_num) ha
  have hfieldQ : slice (0x2 + a * 2 ^ 4 + b * 2 ^ (4 + N.sw)) (4 + N.sw) N.sw = b := by
    simpa using slice_of_parts (rest := 0) hlow (N.enc_lt hq)
  rw [readCommand_sample hop, hfieldI, hfieldQ, N.dec_enc hi, N.dec_enc hq]

theorem readCommand_ctxwr_word (N : Numerics) (reg : CtxReg) (data : Word32) :
    readCommand N (wordC 0x4 reg.addr data.toNat) = .ctxwr reg data := by
  rw [readCommand_ctxwr (wordC_op (by norm_num)), wordC_addr (by norm_num) reg.addr_lt,
    wordC_data (by norm_num) reg.addr_lt data.isLt, CtxReg.ofAddr_addr, BitVec.ofNat_toNat, BitVec.setWidth_eq]

theorem readCommand_ctxrd_word (N : Numerics) (reg : CtxReg) :
    readCommand N (wordC 0x5 reg.addr 0) = .ctxrd reg := by
  rw [readCommand_ctxrd (wordC_op (by norm_num)), wordC_addr (by norm_num) reg.addr_lt, CtxReg.ofAddr_addr]

theorem readCommand_msqrd_word (N : Numerics) (idx : Word32) :
    readCommand N (wordC 0x6 0 idx.toNat) = .msqrd idx := by
  rw [readCommand_msqrd (wordC_op (by norm_num)), wordC_data (by norm_num) (by norm_num) idx.isLt, BitVec.ofNat_toNat,
    BitVec.setWidth_eq]

theorem readCommand_reserved_word (N : Numerics) {op : BitVec 4} (h : 8 ≤ op.toNat) :
    readCommand N op.toNat = .reserved op := by
  have hop : op.toNat % 16 = op.toNat := Nat.mod_eq_of_lt op.isLt
  rw [readCommand_reserved (hop.symm ▸ h), hop, BitVec.ofNat_toNat, BitVec.setWidth_eq]

open Laws in
/-- The word of i fits the port (`EncodingFits`), so reading it is decoding it. -/
theorem decodes_of_reads {N : Numerics} {i : Instr} {w : Nat} (hfits : EncodingFits.Statement i)
    (hwf : wellFormed N i = true) (he : encode N i = some w) (hread : readCommand N w = i.expand) :
    ∃ w, encode N i = some w ∧ w < 2 ^ commandWidth N.sw ∧ decode N w = .ok i.expand := by
  have hlt := hfits N w hwf he
  exact ⟨w, he, hlt, hread ▸ decode_of_lt hlt⟩

open Laws in
/-- Settles O1: the word of each command has its op, and its fields are read back whole. -/
theorem commandsDecodeFromTheirWords : Obligations.CommandsDecodeFromTheirWords := by
  intro N i hc hwf
  cases i with
  | nop => exact decodes_of_reads EncodingFits.nop hwf rfl (readCommand_nop rfl)
  | beginInv now => exact decodes_of_reads (EncodingFits.beginInv now) hwf rfl (readCommand_beginInv_word N now)
  | sample i q =>
    obtain ⟨hi, hq⟩ := Bool.and_eq_true_iff.mp hwf
    obtain ⟨a, ha, -⟩ := Numerics.encodable_iff.mp hi
    obtain ⟨b, hb, -⟩ := Numerics.encodable_iff.mp hq
    exact decodes_of_reads (EncodingFits.sample i q) hwf (by simp only [encode, ha, hb])
      (readCommand_sample_word ha hb)
  | endInv => exact decodes_of_reads EncodingFits.endInv hwf rfl (readCommand_endInv rfl)
  | ctxwr reg data => exact decodes_of_reads (EncodingFits.ctxwr reg data) hwf rfl (readCommand_ctxwr_word N reg data)
  | ctxrd reg => exact decodes_of_reads (EncodingFits.ctxrd reg) hwf rfl (readCommand_ctxrd_word N reg)
  | msqrd idx => exact decodes_of_reads (EncodingFits.msqrd idx) hwf rfl (readCommand_msqrd_word N idx)
  | reset => exact decodes_of_reads EncodingFits.reset hwf rfl (readCommand_reset rfl)
  | reserved op =>
    exact decodes_of_reads (EncodingFits.reserved op) hwf rfl (readCommand_reserved_word N (of_decide_eq_true hwf))
  | armEpc => exact decodes_of_reads EncodingFits.armEpc hwf rfl (readCommand_ctxwr_word N .gate 1)
  | armRn16 => exact decodes_of_reads EncodingFits.armRn16 hwf rfl (readCommand_ctxwr_word N .gate 2)
  | _ => exact absurd hc Bool.false_ne_true

/-! ### Every port word decodes (R91, R96, R97) -/

theorem readCommand_expand (N : Numerics) (w : Nat) : (readCommand N w).expand = readCommand N w := by
  unfold readCommand; split <;> rfl

theorem readCommand_reserved_iff (N : Numerics) (w : Nat) :
    8 ≤ w % 16 ↔ ∃ op : BitVec 4, readCommand N w = .reserved op := by
  refine ⟨fun h => ⟨_, readCommand_reserved h⟩, fun ⟨op, hop⟩ => ?_⟩
  obtain h | h | h | h | h | h | h | h | h := op_cases w
  · cases (readCommand_nop h).symm.trans hop
  · cases (readCommand_beginInv h).symm.trans hop
  · cases (readCommand_sample h).symm.trans hop
  · cases (readCommand_endInv h).symm.trans hop
  · cases (readCommand_ctxwr h).symm.trans hop
  · cases (readCommand_ctxrd h).symm.trans hop
  · cases (readCommand_msqrd h).symm.trans hop
  · cases (readCommand_reset h).symm.trans hop
  · exact h

/-- Settles O2: the width alone decides whether a number is a command word. -/
theorem everyPortWordDecodes : Obligations.EveryPortWordDecodes := fun N w =>
  ⟨fun h => ⟨readCommand N w, decode_of_lt h, Machine.readCommand_isCommand N w, readCommand_expand N w,
    readCommand_reserved_iff N w⟩, decode_of_wide⟩

/-! ### Reserved bits (R91) -/

/-- Settles O3: what is read at each op depends on the fields of its format only. -/
theorem reservedBitsAreIgnored : Obligations.ReservedBitsAreIgnored := by
  intro N v w hv hw hop hA hB hwr hrd hmsq
  suffices h : readCommand N v = readCommand N w by rw [decode_of_lt hv, decode_of_lt hw, h]
  obtain h | h | h | h | h | h | h | h | h := op_cases v
  · rw [readCommand_nop h, readCommand_nop (hop ▸ h)]
  · rw [readCommand_beginInv h, readCommand_beginInv (hop ▸ h), slice_congr (hA h) 0 32 le_rfl]
  · rw [readCommand_sample h, readCommand_sample (hop ▸ h), slice_congr (hB h) 0 N.sw (by omega),
      slice_congr (hB h) N.sw N.sw (by omega)]
  · rw [readCommand_endInv h, readCommand_endInv (hop ▸ h)]
  · rw [readCommand_ctxwr h, readCommand_ctxwr (hop ▸ h), slice_congr (hwr h) 0 4 (by norm_num),
      slice_congr (hwr h) 4 32 le_rfl]
  · rw [readCommand_ctxrd h, readCommand_ctxrd (hop ▸ h), slice_congr (hrd h) 0 4 le_rfl]
  · rw [readCommand_msqrd h, readCommand_msqrd (hop ▸ h), slice_congr (hmsq h) 0 32 le_rfl]
  · rw [readCommand_reset h, readCommand_reset (hop ▸ h)]
  · rw [readCommand_reserved h, readCommand_reserved (hop ▸ h), hop]

/-! ### The worked encodings (R105) -/

/-- Commands whose words are checked by encoding them decode from these words, by the round trip. -/
theorem decode_of_encode_list {N : Numerics} {l : List (Instr × Nat)}
    (h : ∀ x ∈ l, x.1.isCommand = true ∧ wellFormed N x.1 = true ∧ x.1.expand = x.1 ∧ encode N x.1 = some x.2) :
    ∀ x ∈ l, encode N x.1 = some x.2 ∧ decode N x.2 = .ok x.1 := by
  intro x hx
  obtain ⟨hc, hwf, hexp, he⟩ := h x hx
  obtain ⟨w, hw, -, hd⟩ := commandsDecodeFromTheirWords N x.1 hc hwf
  cases he.symm.trans hw
  exact ⟨he, hexp ▸ hd⟩

/-- Settles O4: the twelve commands are encoded, and the round trip of O1 decodes their words. -/
theorem workedEncodingsDecode : Obligations.WorkedEncodingsDecode := decode_of_encode_list (by decide +kernel)

end Sys2Proof

namespace Sys2Proof.Machine

/-! ### Response words (R101, R102) -/

theorem Response.word_of_bits {N : Numerics} {r : Response} {b : Nat} (h : r.payload.bits N = some b) :
    r.word N = some (r.code.toNat + (if r.ov then 2 ^ 4 else 0) + b * 2 ^ 5) := by
  simp only [Response.word, h]

/-- Only a sample payload sets ov, so every other payload is added to the code alone. -/
theorem Response.word_of_ov_false {N : Numerics} {r : Response} {b : Nat} (hov : r.ov = false)
    (h : r.payload.bits N = some b) : r.word N = some (r.code.toNat + b * 2 ^ 5) := by
  rw [Response.word_of_bits h, hov]; rfl

theorem Response.word_empty (N : Numerics) (c : Code) : (Response.mk c .empty).word N = some c.toNat := by
  rw [Response.word_of_ov_false (b := 0) rfl rfl, Nat.zero_mul, Nat.add_zero]

theorem Response.word_counts (N : Numerics) (c : Code) {a b : Nat} (ha : a < 2 ^ 32) (hb : b < 2 ^ 32) :
    (Response.mk c (.counts a b)).word N = some (c.toNat + a * 2 ^ 5 + b * 2 ^ 37) := by
  have hbits : (Payload.counts a b).bits N = some (a + b * 2 ^ 32) := if_pos ⟨ha, hb⟩
  rw [Response.word_of_ov_false rfl hbits]
  congr 1
  show c.toNat + (a + b * 2 ^ 32) * 2 ^ 5 = _
  omega

theorem Response.word_sample {N : Numerics} (c : Code) {y : IQ} {e f : Nat} (he : N.enc y.i = some e)
    (hf : N.enc y.q = some f) :
    (Response.mk c (.sample y)).word N = some (c.toNat + 2 ^ 4 + e * 2 ^ 5 + f * 2 ^ (5 + N.sw)) := by
  have hbits : (Payload.sample y).bits N = some (e + f * 2 ^ N.sw) := by simp only [Payload.bits, he, hf]
  rw [Response.word_of_bits hbits, pow_add]
  congr 1
  show c.toNat + 2 ^ 4 + (e + f * 2 ^ N.sw) * 2 ^ 5 = _
  ring

/-- Settles O5: one word lemma for each class of payload. -/
theorem responseWordLayout : Obligations.ResponseWordLayout :=
  ⟨⟨rfl, rfl, rfl, rfl, rfl, rfl, rfl⟩, fun N c _ _ _ _ _ =>
    ⟨Response.word_empty N c, Response.word_of_ov_false rfl rfl, Response.word_counts N c,
      fun _ he => Response.word_of_ov_false rfl he, fun _ _ => Response.word_sample c⟩⟩

/-! ### Sequences of commands -/

theorem runInstrs_cons {i : Instr} {rest : List Instr} {s t : State} (h : exec i s = .next t) :
    runInstrs (i :: rest) s = runInstrs rest t := by
  simp only [runInstrs, h]

theorem runInstrs_samplesOf_cons {z : IQ} {zs : List IQ} {s t : State} (h : execSample z.i z.q s = .next t) :
    runInstrs (samplesOf (z :: zs)) s = runInstrs (samplesOf zs) t :=
  runInstrs_cons (i := .sample z.i z.q) h

/-! ### One sample of an invocation -/

/-- How t answers a SAMPLE in s, with PHASE = RUN before it: the sample is counted, its output is the one the response
carries, and DONE is the answer exactly where the invocation stops (R228, R232, R233). -/
structure SampleAnswered (s t : State) : Prop where
  consumed : t.consumed = s.consumed + 1
  written : t.written = s.written + t.rsp.outputs.length
  out : t.out = s.out ++ t.rsp.outputs
  outputs_le : t.rsp.outputs.length ≤ 1
  done_or_run : t.rsp.code = .done ∧ t.phase = .stop ∨ t.rsp.code = .ok ∧ t.phase = .run

theorem SampleAnswered.drained {s : State} (hrun : s.phase = .run) :
    SampleAnswered s (s.consume.respond (.plain .ok)) :=
  ⟨rfl, rfl, (List.append_nil _).symm, Nat.zero_le _, .inr ⟨rfl, hrun⟩⟩

theorem SampleAnswered.openPath {s : State} (z : IQ) (hrun : s.phase = .run) : SampleAnswered s (s.openPath z) := by
  rw [State.openPath_eq]
  refine ⟨rfl, rfl, rfl, le_rfl, ?_⟩
  by_cases hdone : s.fwdLen.toNat ≤ satInc s.n
  · exact .inl ⟨if_pos hdone, if_pos hdone⟩
  · exact .inr ⟨if_neg hdone, (if_neg hdone).trans hrun⟩

theorem SampleAnswered.closedPath {s : State} (z : IQ) (hrun : s.phase = .run) :
    SampleAnswered s (s.edgeStep.closedPathEnd z) := by
  rw [State.closedPathEnd_eq]
  cases s.edgeStep.detects <;> rw [State.edgeStep_eq]
  case true => exact ⟨rfl, rfl, rfl, le_rfl, .inr ⟨rfl, hrun⟩⟩
  case false => exact ⟨rfl, rfl, (List.append_nil _).symm, Nat.zero_le _, .inr ⟨rfl, hrun⟩⟩

/-- Of the state before a SAMPLE, its answer depends on the counts and the outputs only. -/
theorem SampleAnswered.of_counts {s s' t : State} (h : SampleAnswered s' t) (hc : s'.consumed = s.consumed)
    (hw : s'.written = s.written) (ho : s'.out = s.out) : SampleAnswered s t :=
  ⟨hc ▸ h.consumed, hw ▸ h.written, ho ▸ h.out, h.outputs_le, h.done_or_run⟩

/-- In a state of the invariant with PHASE = RUN a SAMPLE does not fault, and is answered. -/
theorem execSample_answered (z : IQ) {s : State} (h : Inv s) (hrun : s.phase = .run) :
    ∃ t, execSample z.i z.q s = .next t ∧ Inv t ∧ SampleAnswered s t := by
  obtain ⟨t, ht⟩ := exec_next_of_wf (i := .sample z.i z.q) h.withinStep.memory rfl
  change execSample z.i z.q s = .next t at ht
  refine ⟨t, ht, commandResult_inv h (ht ▸ execSample_result z.i z.q s), ?_⟩
  obtain ⟨hidle, -⟩ | ⟨hstop, -⟩ | ⟨-, -, e⟩ | ⟨-, -, e⟩ | ⟨-, -, -, e⟩ | ⟨-, -, a, -, -, e⟩ | ⟨-, -, a, b, -, e⟩ :=
    execSample_cases z.i z.q s
  · cases hrun.symm.trans hidle
  · cases hrun.symm.trans hstop
  · cases ht.symm.trans e
    exact .drained hrun
  · cases ht.symm.trans e
  · cases ht.symm.trans e
  · cases ht.symm.trans e
    exact (SampleAnswered.openPath (s := s.averaged z a) z hrun).of_counts rfl rfl rfl
  · cases ht.symm.trans e
    exact (SampleAnswered.closedPath (s := (s.averaged z a).estimated z b) z hrun).of_counts rfl rfl rfl

/-! ### The samples of an invocation (R236) -/

theorem offerAll_cons_done {z : IQ} {rest outs : List IQ} {s t : State} (h : execSample z.i z.q s = .next t)
    (hd : t.rsp.code = .done) : offerAll outs s (z :: rest) = .next (t, outs ++ t.rsp.outputs) := by
  simp only [offerAll, h, hd]

theorem offerAll_cons_ok {z : IQ} {rest outs : List IQ} {s t : State} (h : execSample z.i z.q s = .next t)
    (hok : t.rsp.code = .ok) : offerAll outs s (z :: rest) = offerAll (outs ++ t.rsp.outputs) t rest := by
  simp only [offerAll, h, hok]

/-- From s in RUN, the first k samples of the batch lead to u with the outputs outs, and the batch ends there or with
DONE: what the sample loop of INVOKE does. -/
structure Offered (s : State) (batch : List IQ) (k : Nat) (u : State) (outs : List IQ) : Prop where
  length : k ≤ batch.length
  runs : runInstrs (samplesOf (batch.take k)) s = .next u
  busy : u.phase ≠ .idle
  stops : k < batch.length → u.rsp.code = .done
  running_before : ∀ j w, j < k → runInstrs (samplesOf (batch.take j)) s = .next w → w.phase = .run
  consumed : u.consumed = s.consumed + k
  written : u.written = s.written + outs.length
  out : u.out = s.out ++ outs
  outputs_le : outs.length ≤ k

theorem Offered.nil {s : State} (hrun : s.phase = .run) : Offered s [] 0 s [] where
  length := le_rfl
  runs := rfl
  busy := by simp [hrun]
  stops h := absurd h (Nat.lt_irrefl 0)
  running_before _ _ h _ := absurd h (Nat.not_lt_zero _)
  consumed := rfl
  written := rfl
  out := (List.append_nil _).symm
  outputs_le := le_rfl

/-- One sample before an offered batch. -/
theorem Offered.cons {s t u : State} {z : IQ} {rest outs : List IQ} {k : Nat} (hrun : s.phase = .run)
    (ht : execSample z.i z.q s = .next t) (ha : SampleAnswered s t) (ho : Offered t rest k u outs) :
    Offered s (z :: rest) (k + 1) u (t.rsp.outputs ++ outs) where
  length := Nat.succ_le_succ ho.length
  runs := (runInstrs_samplesOf_cons ht).trans ho.runs
  busy := ho.busy
  stops h := ho.stops (Nat.lt_of_succ_lt_succ h)
  running_before j w hj hw := by
    cases j with
    | zero => cases hw; exact hrun
    | succ j => exact ho.running_before j w (Nat.lt_of_succ_lt_succ hj) ((runInstrs_samplesOf_cons ht).symm.trans hw)
  consumed := by rw [ho.consumed, ha.consumed]; omega
  written := by rw [ho.written, ha.written, List.length_append]; omega
  out := by rw [ho.out, ha.out, List.append_assoc]
  outputs_le := by
    have h1 := ha.outputs_le
    have h2 := ho.outputs_le
    rw [List.length_append]
    omega

/-- A sample answered DONE ends the batch, whatever follows it. -/
theorem Offered.done {s t : State} {z : IQ} (rest : List IQ) (hrun : s.phase = .run)
    (ht : execSample z.i z.q s = .next t) (ha : SampleAnswered s t) (hd : t.rsp.code = .done)
    (hstop : t.phase = .stop) : Offered s (z :: rest) 1 t t.rsp.outputs where
  length := Nat.le_add_left ..
  runs := runInstrs_samplesOf_cons ht
  busy := by simp [hstop]
  stops _ := hd
  running_before j w hj hw := by
    obtain rfl : j = 0 := by omega
    cases hw
    exact hrun
  consumed := ha.consumed
  written := ha.written
  out := ha.out
  outputs_le := ha.outputs_le

/-- The sample loop offers a first part of the batch, in every state of the invariant with PHASE = RUN. -/
theorem offerAll_offered (batch : List IQ) : ∀ {s : State} (outs : List IQ), Inv s → s.phase = .run →
    ∃ k u new, offerAll outs s batch = .next (u, outs ++ new) ∧ Offered s batch k u new := by
  induction batch with
  | nil =>
    intro s outs _ hrun
    exact ⟨0, s, [], by simp [offerAll], .nil hrun⟩
  | cons z rest ih =>
    intro s outs hinv hrun
    obtain ⟨t, ht, htinv, ha⟩ := execSample_answered z hinv hrun
    obtain ⟨hd, hstop⟩ | ⟨hok, hrun'⟩ := ha.done_or_run
    · exact ⟨1, t, _, offerAll_cons_done ht hd, .done rest hrun ht ha hd hstop⟩
    · obtain ⟨k, u, new, hu, ho⟩ := ih (outs ++ t.rsp.outputs) htinv hrun'
      refine ⟨k + 1, u, _, ?_, .cons hrun ht ha ho⟩
      rw [offerAll_cons_ok ht hok, hu, List.append_assoc]

/-! ### INVOKE -/

/-- The state in which BEGIN in IDLE leaves the block (R226). -/
def State.begun (s : State) (now : Word32) : State :=
  ((s.termChk now).gateArm.startInvocation).respond (.plain .ok)

theorem State.begun_out (s : State) (now : Word32) : (s.begun now).out = s.out := by
  simp only [State.begun, State.respond_out, State.startInvocation_out, State.gateArm_eq, State.termChk_eq]

/-- INVOKE from IDLE is BEGIN, the sample loop and END, with END's counts and the outputs in its response (R236). -/
theorem execInvoke_of_offerAll {now : Word32} {batch outs : List IQ} {s u : State} (hidle : s.phase = .idle)
    (ho : offerAll [] (s.begun now) batch = .next (u, outs)) (hbusy : u.phase ≠ .idle) :
    execInvoke now batch s =
      .next ({ u with phase := .idle }.respond ⟨.ok, .invoked u.consumed u.written outs⟩) := by
  have hb : execBegin now s = .next (s.begun now) := execBegin_idle now hidle
  have hcode : (s.begun now).rsp.code = .ok := rfl
  simp only [execInvoke, hb, hcode, if_true, ho, finishInvoke, execEnd_busy hbusy]
  rfl

/-- Settles O45: BEGIN starts an invocation that has consumed and written nothing, and the sample loop offers from
there. -/
theorem invokeIsItsCommandSequence : Obligations.InvokeIsItsCommandSequence := by
  intro now batch s hinv hidle
  have hbegin : exec (.beginInv now) s = .next (s.begun now) := execBegin_idle now hidle
  obtain ⟨k, u, outs, hoffer, ho⟩ := offerAll_offered (s := s.begun now) batch []
    (State.respond_inv (State.begin_inv hinv now) _) rfl
  have hconsumed : u.consumed = k := ho.consumed.trans (Nat.zero_add k)
  have hwritten : u.written = outs.length := ho.written.trans (Nat.zero_add _)
  have hout : u.out = s.out ++ outs := ho.out.trans (congrArg (· ++ outs) (s.begun_out now))
  refine ⟨k, u, _, _, outs, ho.length, (runInstrs_cons hbegin).trans ho.runs, execEnd_busy ho.busy, ?_, ho.stops,
    fun j w hj hw => ho.running_before j w hj ((runInstrs_cons hbegin).symm.trans hw),
    execInvoke_of_offerAll hidle hoffer ho.busy, ?_, hout, ho.outputs_le⟩
  · rw [State.respond_rsp, hconsumed, hwritten]
  · rw [hconsumed, hwritten]
    rfl

end Sys2Proof.Machine

/-! Scope: CONSTRUCT as a function of its checks, taken in their order (R120 to R127, R291), and the configuration as
what no command writes (R129). -/

namespace Sys2Proof.Machine

/-! ### The counts a timing gives (R121, R124, R127) -/

/-- A rate that is no natural number of 1 to 2^32 - 1 is not read (R124). -/
theorem rateOf_eq_none_of_forall_ne {r : Rat} (h : ∀ k : Nat, 1 ≤ k → k < 2 ^ 32 → r ≠ (k : Rat)) :
    rateOf r = none := by
  refine if_neg fun ⟨hden, hlo, hhi⟩ => h r.num.toNat (by omega) (by omega) ?_
  have hnum : ((r.num.toNat : Int) : Rat) = r.num := congrArg Int.cast (Int.toNat_of_nonneg (by omega))
  calc r = (r.num : Rat) := ((Rat.den_eq_one_iff r).mp hden).symm
    _ = (r.num.toNat : Rat) := by rw [← hnum, Int.cast_natCast]

theorem TimingGives.countsOf_eq {timing : Timing} {t1 pw bit navg ndc : Nat}
    (h : TimingGives timing t1 pw bit navg ndc) : countsOf timing = .ok ⟨t1, pw, bit, navg, ndc⟩ := by
  obtain rfl | ⟨r, a, b, c, d, e, hlo, hhi, rfl, rfl, rfl, rfl, rfl, rfl⟩ := h
  · rfl
  · simp only [countsOf, rateOf_natCast hlo hhi, deriveCount]

/-- Settles O15: the quotient of `deriveCount` is the floor. -/
theorem deriveCountIsTheExactFloor : Obligations.DeriveCountIsTheExactFloor := fun d r _ =>
  ⟨deriveCount d r, rfl, Nat.div_mul_le_self _ _, Nat.lt_mul_of_div_lt (Nat.lt_succ_self _) (by decide)⟩

/-! ### The check that decides CONSTRUCT (R120) -/

theorem exec_construct_of_no_counts {p : Params} {name : ConfigName} (s : State)
    (h : countsOf p.timing = .error name) : exec (.construct p) s = .fault (.configError name) := by
  simp only [exec, execConstruct, construct, h]

section
variable {p : Params} {counts : Counts} {name : ConfigName} (s : State) (hcounts : countsOf p.timing = .ok counts)
include hcounts

theorem exec_construct_of_failing_count (h : firstFailure (countChecks counts) = some name) :
    exec (.construct p) s = .fault (.configError name) := by
  simp only [exec, execConstruct, construct, hcounts, h]

theorem exec_construct_of_failing_other (hpass : firstFailure (countChecks counts) = none)
    (h : firstFailure (otherChecks p (configOf p counts)) = some name) :
    exec (.construct p) s = .fault (.configError name) := by
  simp only [exec, execConstruct, construct, hcounts, hpass, h]

theorem exec_construct_of_pass (hpass : firstFailure (countChecks counts) = none)
    (h : firstFailure (otherChecks p (configOf p counts)) = none) :
    exec (.construct p) s = .next { State.constructed (configOf p counts) with cmds := s.cmds } := by
  simp only [exec, execConstruct, construct, hcounts, hpass, h]

end

/-- check_other passes the configuration of parameters and counts exactly under the conditions of R126: the lengths are
those of R125, and a parameter that is a natural number is unchanged in the configuration. -/
theorem otherChecks_configOf_pass_iff (p : Params) (c : Counts) :
    firstFailure (otherChecks p (configOf p c)) = none ↔
      OtherParamsOk p c.t1 c.pw ((p.epcBits.toNat + p.preambleBits.toNat) * c.bit + 2 * c.bit)
        ((p.rn16Bits.toNat + p.preambleBits.toNat) * c.bit + 2 * c.bit) := by
  simp only [otherChecks_pass_iff, configOf, forwardLength, OtherParamsOk, cntMax]
  constructor <;> intro h <;> omega

/-! ### What CONSTRUCT answers (R120 to R127, R291) -/

/-- Settles O13: such a rate is not read, and there are no counts to check. -/
theorem illegalRateIsRefused : Obligations.IllegalRateIsRefused := by
  intro p s r a b c d e htiming hr
  apply exec_construct_of_no_counts
  simp only [htiming, countsOf, rateOf_eq_none_of_forall_ne hr]

/-- Settles O12: check_counts tests the counts in this order, before the other parameters. -/
theorem firstZeroCountIsTheConfigError : Obligations.FirstZeroCountIsTheConfigError := by
  intro p s t1 pw bit navg ndc htiming
  have refused {name} := exec_construct_of_failing_count (name := name) s htiming.countsOf_eq
  refine ⟨fun h1 => refused ?t1, fun h1 h2 => refused ?pw, fun h1 h2 h3 => refused ?bit,
    fun h1 h2 h3 h4 => refused ?navg, fun h1 h2 h3 h4 h5 => refused ?ndc⟩
  all_goals simp [countChecks, firstFailure, *]

/-- Settles O11: both lists of checks pass, and the configuration made is that of the counts. -/
theorem constructMakesTheMachine : Obligations.ConstructMakesTheMachine := by
  rintro p s t1 pw bit navg ndc lEpc lRn16 htiming h1 h2 h3 h4 h5 rfl rfl hother
  have hpass := (countChecks_pass_iff ⟨t1, pw, bit, navg, ndc⟩).mpr ⟨h1, h2, h3, h4, h5⟩
  exact ⟨_, exec_construct_of_pass s htiming.countsOf_eq hpass ((otherChecks_configOf_pass_iff p _).mpr hother),
    rfl, rfl⟩

/-- Settles O14: once the counts pass, check_other decides between the machine and a ConfigError. -/
theorem otherParametersDecideConstruction : Obligations.OtherParametersDecideConstruction := by
  intro p s t1 pw bit navg ndc htiming h1 h2 h3 h4 h5
  have hpass := (countChecks_pass_iff ⟨t1, pw, bit, navg, ndc⟩).mpr ⟨h1, h2, h3, h4, h5⟩
  rw [← otherChecks_configOf_pass_iff p ⟨t1, pw, bit, navg, ndc⟩]
  cases hother : firstFailure (otherChecks p (configOf p ⟨t1, pw, bit, navg, ndc⟩)) with
  | none =>
    have made := exec_construct_of_pass s htiming.countsOf_eq hpass hother
    exact ⟨⟨fun _ => rfl, fun _ => ⟨_, made⟩⟩, .inl ⟨_, made⟩⟩
  | some name =>
    have refused := exec_construct_of_failing_other s htiming.countsOf_eq hpass hother
    exact ⟨⟨fun ⟨_, ht⟩ => (nomatch refused.symm.trans ht), nofun⟩, .inr ⟨name, refused⟩⟩

/-- Settles O16: the machine of O11 for the default parameters. -/
theorem defaultRateGivesTheSourceCounts : Obligations.DefaultRateGivesTheSourceCounts := by
  intro s
  have htiming : TimingGives Params.default.timing 96 4 10 100 48 :=
    .inr ⟨400000, 240, 12, 25, 250, 120, by decide, by decide, rfl, rfl, rfl, rfl, rfl, rfl⟩
  have hother : OtherParamsOk Params.default 96 4 1370 250 := by unfold OtherParamsOk; decide
  obtain ⟨t, ht, -, hcfg⟩ := constructMakesTheMachine Params.default s 96 4 10 100 48 1370 250 htiming
    (by decide) (by decide) (by decide) (by decide) (by decide) rfl rfl hother
  exact ⟨t, ht, by rw [hcfg]; exact ⟨rfl, rfl, rfl, rfl, rfl, rfl, rfl⟩⟩

/-! ### Config (R129) -/

@[simp] theorem State.termChk_cfg (s : State) (now : Word32) : (s.termChk now).cfg = s.cfg := by
  rw [State.termChk_eq]

@[simp] theorem State.gateArm_cfg (s : State) : s.gateArm.cfg = s.cfg := by rw [State.gateArm_eq]

@[simp] theorem State.averaged_cfg (s : State) (z : IQ) (a : Scalar) : (s.averaged z a).cfg = s.cfg := rfl

@[simp] theorem State.estimated_cfg (s : State) (z b : IQ) : (s.estimated z b).cfg = s.cfg := rfl

@[simp] theorem State.edgeStep_cfg (s : State) : s.edgeStep.cfg = s.cfg := by rw [State.edgeStep_eq]

@[simp] theorem State.closedPathEnd_cfg (s : State) (z : IQ) : (s.closedPathEnd z).cfg = s.cfg := by
  rw [State.closedPathEnd_eq]

@[simp] theorem State.openPath_cfg (s : State) (z : IQ) : (s.openPath z).cfg = s.cfg := by rw [State.openPath_eq]

theorem commandResult_cfg {s t : State} (ht : CommandResult s (.next t)) : t.cfg = s.cfg := by
  cases ht with
  | answered r => rfl
  | written g st nq ntags ts hph hg => rfl
  | begun now hph => simp
  | ended r hph => rfl
  | reset => rfl
  | drained hrun => rfl
  | forwarded z a hp hg hi ha => simp
  | estimated z a b hp hg hr => simp

/-- Settles O56: no result of a command has another configuration, and a step is idle or performs a command. -/
theorem configNeverChanges : Obligations.ConfigNeverChanges :=
  ⟨fun s _ ht => step_keeps (Good := fun u => u.cfg = s.cfg) (fun _ _ h => h)
      (fun _ _ h hu => (commandResult_cfg hu).trans h) rfl ht,
    fun _ s _ hi ht => commandResult_cfg (ht ▸ exec_result s hi)⟩

end Sys2Proof.Machine

/-! Scope: the ring averager in AVG.UPD and in a processed SAMPLE (R141, R228), and what WIN holds after a run of samples
(R145). -/

namespace Sys2Proof

/-! ### Ring windows, oldest element first (R61, R62) -/

/-- Writing at the index of a ring and advancing the index drops the oldest element and appends the new one. -/
theorem ring_rotate_set {α : Type} {l : List α} {i : Nat} (v : α) (hi : i < l.length) :
    (l.set i v).rotate ((i + 1) % l.length) = (l.rotate i).tail ++ [v] := by
  have hlen : (l.set i v).length = l.length := List.length_set ..
  calc (l.set i v).rotate ((i + 1) % l.length)
      = (l.set i v).rotate (i + 1) := by rw [← hlen, List.rotate_mod]
    _ = (l.set i v).drop (i + 1) ++ (l.set i v).take (i + 1) := List.rotate_eq_drop_append_take (by omega)
    _ = l.drop (i + 1) ++ (l.take i ++ [v]) := by
      rw [List.drop_set_of_lt (Nat.lt_succ_self i), List.take_succ_eq_append_getElem (by omega),
        List.take_set_of_le le_rfl, List.getElem_set_self]
    _ = (l.rotate i).tail ++ [v] := by
      rw [List.rotate_eq_drop_append_take hi.le, List.drop_eq_getElem_cons hi, List.cons_append, List.tail_cons,
        List.append_assoc]

/-- After at least as many constant elements as the ring holds, it holds nothing else. -/
theorem drop_append_replicate_of_length_le {α : Type} {l : List α} {k : Nat} (a : α) (h : l.length ≤ k) :
    (l ++ List.replicate k a).drop k = List.replicate l.length a := by
  rw [List.drop_append, List.drop_eq_nil_of_le h, List.nil_append, List.drop_replicate, Nat.sub_sub_self h]

end Sys2Proof

namespace Sys2Proof.Machine

/-! ### AVG.UPD (R141) -/

/-- Settles O18: `avgUpd_of_read` is what the instruction answers. -/
theorem avgUpdReplacesTheOldestMagnitude : Obligations.AvgUpdReplacesTheOldestMagnitude := by
  intro s old hi hold
  simp only [exec, execAvgUpd, State.avgUpd_of_read hi hold]

/-! ### A processed SAMPLE (R228) -/

/-- The saturating count written out (R27, R28). -/
theorem satInc_eq (n : Nat) : satInc n = if n < 2 ^ 32 - 1 then n + 1 else n := rfl

/-- Settles O42: path (b) after the averager, with GATE and PHASE as they were. -/
theorem sampleWithGateOpen : Obligations.SampleWithGateOpen := by
  intro i q oldM s hp hg hi hold
  have hsample : exec (.sample i q) s = .next ((s.averaged ⟨i, q⟩ oldM).openPath ⟨i, q⟩) :=
    execSample_opened hp hg hi hold
  have hphase : s.phase = .run := hp.1
  rw [hsample, State.openPath_eq]
  simp only [State.averaged, satInc_eq, hg, hphase, StepValues.clear, IQ.zero]

/-- A command is detected after the edge transition only where EDGE was RISING and does not fall: a rising edge in
this step has cleared N (R178, R179, R180). -/
theorem State.edgeStep_detects_iff (s : State) :
    s.edgeStep.detects = true ↔
      s.edge = .rising ∧ s.cfg.num.lt s.work.m s.work.thr = false ∧ s.cfg.t1 < s.n ∧ s.cfg.minPulses < s.p := by
  rw [State.detects_iff]
  obtain ⟨hf, e⟩ | ⟨hr, e⟩ | ⟨hf, -, e⟩ := s.edgeStep_cases <;> rw [e]
  · have hlt := ((State.falls_iff s).mp hf).2
    simp [hlt]
  · have hedge := ((State.rises_iff s).mp hr).1
    simp [hedge]
  · have hlt : s.edge = .rising → s.cfg.num.lt s.work.m s.work.thr = false := by
      simpa [State.falls, State.belowThr] using hf
    exact ⟨fun ⟨he, hn, hpl⟩ => ⟨he, hlt he, hn, hpl⟩, fun ⟨he, _, hn, hpl⟩ => ⟨he, hn, hpl⟩⟩

/-- Settles O41: path (a) after the averager and the estimator, with the conditions of the edge transition and of the
detection written out. -/
theorem sampleWithGateNotOpen : Obligations.SampleWithGateNotOpen := by
  intro i q oldM oldS s hp hg hr N z m avg thr dc n falls rises p fires y
  have hsample : exec (.sample i q) s =
      .next ((((s.averaged z oldM).estimated z oldS).edgeStep).closedPathEnd z) := execSample_closed hp hg hr
  have hfires : ((s.averaged z oldM).estimated z oldS).edgeStep.detects = true ↔ fires :=
    State.edgeStep_detects_iff _
  have hfalls : ((s.averaged z oldM).estimated z oldS).falls = true ↔ falls := State.falls_iff _
  have hrises : ((s.averaged z oldM).estimated z oldS).rises = true ↔ rises := State.rises_iff _
  have hvalid : ((s.averaged z oldM).estimated z oldS).validPulse = true ↔ s.cfg.pw / 2 < n := State.validPulse_iff _
  rw [hsample, State.closedPathEnd_eq]
  simp only [hfires]
  rw [State.edgeStep_eq]
  simp only [Bool.or_eq_true, hfalls, hrises, hvalid]
  rfl

/-! ### WIN over a run of samples (R145) -/

/-- The averager's part of a processed SAMPLE: its magnitude takes the place of the oldest (R141, R228). -/
structure SampleAveraged (z : IQ) (s t : State) : Prop where
  cfg : t.cfg = s.cfg
  status : t.status = s.status
  win : t.win = s.win.set s.wi (s.cfg.num.mag z)
  wi : t.wi = (s.wi + 1) % s.cfg.navg

/-- Neither path of a processed SAMPLE writes WIN or WI after the averager. -/
theorem execSample_averaged {s t : State} {z : IQ} (hm : Memory.wf s = true) (hp : Processing s)
    (ht : execSample z.i z.q s = .next t) : SampleAveraged z s t := by
  obtain ⟨a, b, hr⟩ := ringsReadable_of_wf hm
  by_cases hg : s.gate = .opened
  · cases ht.symm.trans (execSample_opened hp hg hr.1 hr.2.1)
    rw [State.openPath_eq]
    exact ⟨rfl, rfl, rfl, rfl⟩
  · cases ht.symm.trans (execSample_closed hp hg hr)
    rw [State.closedPathEnd_eq, State.edgeStep_eq]
    exact ⟨rfl, rfl, rfl, rfl⟩

/-- WIN with the oldest magnitude first: WI is the index of the next to be replaced (R22, R61). -/
def State.oldestFirst (s : State) : List Scalar := s.win.rotate s.wi

theorem State.oldestFirst_length (s : State) : s.oldestFirst.length = s.win.length := List.length_rotate ..

theorem State.oldestFirst_sum (s : State) : s.oldestFirst.sum = s.win.sum := (List.rotate_perm s.win s.wi).sum_eq

theorem SampleAveraged.oldestFirst {s t : State} {z : IQ} (h : SampleAveraged z s t) (hm : Memory.wf s = true) :
    t.oldestFirst = s.oldestFirst.tail ++ [s.cfg.num.mag z] := by
  obtain ⟨hwin, hwi, -⟩ := Memory.wf_iff.mp hm
  rw [State.oldestFirst, h.win, h.wi, ← hwin]
  exact ring_rotate_set _ (hwin ▸ hwi)

/-- A property that every command keeps, every sequence of commands keeps. -/
theorem runInstrs_keeps {Good : State → Prop} (hcommand : ∀ s t, Good s → CommandResult s (.next t) → Good t)
    {is : List Instr} (his : ∀ i ∈ is, i.isCommand = true) {s t : State} (h : Good s)
    (ht : runInstrs is s = .next t) : Good t := by
  induction is generalizing s with
  | nil => cases ht; exact h
  | cons i rest ih =>
    obtain ⟨hi, hrest⟩ := List.forall_mem_cons.mp his
    have hr := exec_result s hi
    unfold runInstrs at ht
    generalize exec i s = r at hr ht
    cases r with
    | next u => exact ih hrest (hcommand s u h hr) ht
    | fault f => cases ht
    | refused r => cases ht

/-- In a state of the invariant no sequence of commands faults (R297). -/
theorem runInstrs_next_of_inv {is : List Instr} (his : ∀ i ∈ is, i.isCommand = true) {s : State} (h : Inv s) :
    ∃ t, runInstrs is s = .next t := by
  induction is generalizing s with
  | nil => exact ⟨s, rfl⟩
  | cons i rest ih =>
    obtain ⟨hi, hrest⟩ := List.forall_mem_cons.mp his
    obtain ⟨u, hu⟩ := exec_next_of_wf h.withinStep.memory hi
    rw [runInstrs_cons hu]
    exact ih hrest (commandResult_inv h (hu ▸ exec_result s hi))

theorem samplesOf_isCommand (zs : List IQ) : ∀ i ∈ samplesOf zs, i.isCommand = true := by
  intro i hi
  obtain ⟨z, -, rfl⟩ := List.mem_map.mp hi
  rfl

/-- No sample is processed once the invocation has stopped (R231). -/
theorem runInstrs_samplesOf_stop {zs : List IQ} {s t : State} (h : s.phase = .stop)
    (ht : runInstrs (samplesOf zs) s = .next t) : t.phase = .stop := by
  induction zs generalizing s with
  | nil => cases ht; exact h
  | cons z rest ih =>
    rw [runInstrs_samplesOf_cons (execSample_stop z.i z.q h)] at ht
    exact ih (s := s.respond (.plain .stopped)) h ht

/-- While the invocation runs on, each sample offered moves the window by its magnitude: WIN holds the last NAVG
magnitudes in order (R141, R145). -/
theorem oldestFirst_after_samples {zs : List IQ} {s t : State} (h : Inv s) (hp : Processing s)
    (ht : runInstrs (samplesOf zs) s = .next t) (hrun : t.phase = .run) :
    t.oldestFirst = (s.oldestFirst ++ zs.map s.cfg.num.mag).drop zs.length := by
  induction zs generalizing s with
  | nil => cases ht; simp
  | cons z rest ih =>
    obtain ⟨u, hu, hinv, hans⟩ := execSample_answered z h hp.1
    rw [runInstrs_samplesOf_cons hu] at ht
    obtain ⟨-, hstop⟩ | ⟨-, hphase⟩ := hans.done_or_run
    · cases hrun.symm.trans (runInstrs_samplesOf_stop hstop ht)
    · have hm := h.withinStep.memory
      have havg := execSample_averaged hm hp hu
      have hproc : Processing u := ⟨hphase, by rw [havg.cfg, havg.status]; exact hp.2⟩
      obtain ⟨hwin, hwi, -⟩ := Memory.wf_iff.mp hm
      have hne : s.oldestFirst ≠ [] := by
        rw [← List.length_pos_iff, State.oldestFirst_length]
        omega
      obtain ⟨old, younger, hold⟩ := List.exists_cons_of_ne_nil hne
      rw [ih hinv hproc ht, havg.oldestFirst hm, havg.cfg, hold]
      simp

/-- Settles O21: after NAVG magnitudes A the window holds nothing else, and AVG is its mean. -/
theorem constantMagnitudeConverges : Obligations.ConstantMagnitudeConverges := by
  intro s zs A hinv hmeans hexact hp hA hlen
  have hcmd := samplesOf_isCommand zs
  obtain ⟨t, ht⟩ := runInstrs_next_of_inv hcmd hinv
  refine ⟨t, ht, fun hrun => ?_⟩
  have hcfg : t.cfg = s.cfg :=
    runInstrs_keeps (Good := fun u => u.cfg = s.cfg) (fun _ _ h hu => (commandResult_cfg hu).trans h) hcmd rfl ht
  obtain ⟨havg, -⟩ := runInstrs_keeps (fun _ _ => commandResult_means) hcmd hmeans ht (hcfg ▸ hexact)
  obtain ⟨hwin, hwi, -⟩ := Memory.wf_iff.mp hinv.withinStep.memory
  have hmags : zs.map s.cfg.num.mag = List.replicate zs.length A :=
    List.eq_replicate_iff.mpr ⟨List.length_map .., List.forall_mem_map.mpr hA⟩
  have hwindow : t.oldestFirst = List.replicate s.cfg.navg A := by
    rw [oldestFirst_after_samples hinv hp ht hrun, hmags, ← hwin, ← s.oldestFirst_length]
    exact drop_append_replicate_of_length_le A (by rw [s.oldestFirst_length, hwin]; exact hlen)
  have hnavg : (s.cfg.navg : Scalar) ≠ 0 := Nat.cast_ne_zero.mpr (by omega)
  rw [havg, ← t.oldestFirst_sum, hwindow, hcfg, List.sum_replicate, nsmul_eq_mul, mul_div_cancel_left₀ A hnavg]

end Sys2Proof.Machine

/-! Scope: the DC offset estimator in DC.UPD, DC.SUB and MSQ.VAL (R161, R163, R165) and over a run of samples (R164),
the commands that leave the estimators alone (R162, R322), DET.FIRE (R180), and the rest of an open window (R207). -/

namespace Sys2Proof

/-- The mean of a non-empty list moves with a constant that is added to each element (R164). -/
theorem mean_map_const_add {α : Type} {l : List α} (f : α → Scalar) (c : Scalar) (h : (l.length : Scalar) ≠ 0) :
    (l.map fun x => c + f x).sum / (l.length : Scalar) = c + (l.map f).sum / (l.length : Scalar) := by
  rw [List.sum_map_add, List.map_const', List.sum_replicate, nsmul_eq_mul, add_div, mul_div_cancel_left₀ c h]

end Sys2Proof

namespace Sys2Proof.Machine

/-! ### DC.UPD, alone and over a run of samples (R161, R164) -/

/-- Settles O22: `dcUpd_of_read` is what the instruction answers, with the complex operations written out. -/
theorem dcUpdReplacesTheOldestSample : Obligations.DcUpdReplacesTheOldestSample := by
  intro z old s hi hold
  simp only [exec, execDcUpd, State.dcUpd_of_read hi hold]
  rfl

/-- DCW with the oldest sample first: DI is the index of the next to be replaced (R25, R62). -/
def State.samplesOldestFirst (s : State) : List IQ := s.dcw.rotate s.di

theorem State.samplesOldestFirst_perm (s : State) : s.samplesOldestFirst.Perm s.dcw := List.rotate_perm s.dcw s.di

/-- What one DC.UPD keeps, and how it moves DCW: the oldest sample leaves and z is appended. -/
structure DcUpdated (z : IQ) (s t : State) : Prop where
  cfg : t.cfg = s.cfg
  memory : Memory.wf t = true
  means : MeansOk t
  window : t.samplesOldestFirst = s.samplesOldestFirst.tail ++ [z]

theorem exec_dcUpd_updated (z : IQ) {s : State} (h : Memory.wf s = true) (hmeans : MeansOk s) :
    ∃ t, exec (.dcUpd z) s = .next t ∧ DcUpdated z s t := by
  obtain ⟨-, old, -, -, hi, hold⟩ := ringsReadable_of_wf h
  have hread := State.dcUpd_of_read (z := z) hi hold
  obtain ⟨-, -, hdcw, -⟩ := Memory.wf_iff.mp h
  refine ⟨_, dcUpdReplacesTheOldestSample z old s hi hold,
    { cfg := rfl, memory := State.dcUpd_wf h hread, means := State.estimated_means hmeans z hold, window := ?_ }⟩
  rw [State.samplesOldestFirst, State.samplesOldestFirst, ← hdcw]
  exact ring_rotate_set z (hdcw ▸ hi)

/-- A run of DC.UPD moves the window by its samples: DCW holds the last NDC samples in order, and DC stays their mean
(R161, R164). -/
theorem runInstrs_dcUpd (zs : List IQ) {s : State} (h : Memory.wf s = true) (hmeans : MeansOk s) :
    ∃ t, runInstrs (zs.map .dcUpd) s = .next t ∧ t.cfg = s.cfg ∧ MeansOk t ∧
      t.samplesOldestFirst = (s.samplesOldestFirst ++ zs).drop zs.length := by
  induction zs generalizing s with
  | nil => exact ⟨s, rfl, rfl, hmeans, by simp⟩
  | cons z rest ih =>
    obtain ⟨u, hu, hupd⟩ := exec_dcUpd_updated z h hmeans
    obtain ⟨t, ht, hcfg, htmeans, hwindow⟩ := ih hupd.memory hupd.means
    refine ⟨t, (runInstrs_cons hu).trans ht, hcfg.trans hupd.cfg, htmeans, ?_⟩
    obtain ⟨-, -, hdcw, hdi, -⟩ := Memory.wf_iff.mp h
    have hne : s.samplesOldestFirst ≠ [] := by
      rw [← List.length_pos_iff, s.samplesOldestFirst_perm.length_eq]
      omega
    obtain ⟨old, younger, hold⟩ := List.exists_cons_of_ne_nil hne
    rw [hwindow, hupd.window, hold]
    simp

/-- Settles O24: after NDC updates DCW holds the samples D + v and no others, and DC is their mean. -/
theorem dcEstimateConverges : Obligations.DcEstimateConverges := by
  intro s D vs h hmeans hexact hlen
  obtain ⟨t, ht, hcfg, htmeans, hwindow⟩ := runInstrs_dcUpd (vs.map fun v => ⟨D.i + v.i, D.q + v.q⟩) h hmeans
  obtain ⟨-, hi, hq⟩ := htmeans (hcfg ▸ hexact)
  obtain ⟨-, -, hdcw, hdi, -⟩ := Memory.wf_iff.mp h
  have hperm : (vs.map fun v => IQ.mk (D.i + v.i) (D.q + v.q)).Perm t.dcw := by
    refine .trans (.of_eq ?_) t.samplesOldestFirst_perm
    rw [hwindow, List.drop_left']
    rw [s.samplesOldestFirst_perm.length_eq, hdcw, List.length_map, hlen]
  have hndc : (vs.length : Scalar) ≠ 0 := Nat.cast_ne_zero.mpr (by omega)
  rw [List.map_map] at ht
  refine ⟨t, ht, ?_, ?_⟩
  · rw [hi, ← (hperm.map IQ.i).sum_eq, hcfg, ← hlen, List.map_map]
    exact mean_map_const_add IQ.i D.i hndc
  · rw [hq, ← (hperm.map IQ.q).sum_eq, hcfg, ← hlen, List.map_map]
    exact mean_map_const_add IQ.q D.q hndc

/-! ### The corrected sample (R163, R165) and the detection that forwards it (R180) -/

/-- Settles O23: each writes one value of the step, with the complex operations written out. -/
theorem correctedSampleAndItsSquare : Obligations.CorrectedSampleAndItsSquare := ⟨fun _ _ => rfl, fun _ => rfl⟩

theorem exec_detFire_of_detects {s : State} (z : IQ) (h : s.detects = true) :
    exec (.detFire z) s = .next (s.dcSub z).fire :=
  congrArg Host.Outcome.next (if_pos h)

theorem exec_detFire_of_not_detects {s : State} (z : IQ) (h : ¬ s.detects = true) : exec (.detFire z) s = .next s :=
  congrArg Host.Outcome.next (if_neg h)

/-- Settles O29: `detects_iff` decides, and `fire_eq` says what DET.FIRE writes, with y the sample of DC.SUB. -/
theorem detFireOpensTheGate : Obligations.DetFireOpensTheGate := by
  refine fun z s => ⟨fun hedge hn hp => ?_, fun hnot => exec_detFire_of_not_detects z ?_⟩
  · refine ⟨_, exec_detFire_of_detects z (s.detects_iff.mpr ⟨hedge, hn, hp⟩), s.cfg.num.csub z s.dc, rfl, ?_, ?_⟩
    · rw [State.fire_eq]
      rfl
    · rw [State.fire_eq]
      show (if s.cfg.triggerAppendsMsq then _ else _ : StepValues).y = _
      split <;> rfl
  · rw [s.detects_iff]
    obtain hfalling | hcounts := hnot
    · simp [hfalling]
    · omega

/-! ### What leaves the estimators alone (R162, R322) -/

/-- The registers and the memory of the ring averager (R21, R22, R23). -/
def State.averager (s : State) : Scalar × List Scalar × Nat := (s.avg, s.win, s.wi)

/-- The registers and the memory of the DC offset estimator (R24, R25, R26). -/
def State.dcEstimator (s : State) : IQ × List IQ × Nat := (s.dc, s.dcw, s.di)

/-- A next state, if there is one, has both estimators as they were. -/
def KeepsEstimators (s : State) (r : StepResult) : Prop :=
  ∀ t, r = .next t → t.averager = s.averager ∧ t.dcEstimator = s.dcEstimator

theorem keepsEstimators_next {s t : State} (ha : t.averager = s.averager) (hd : t.dcEstimator = s.dcEstimator) :
    KeepsEstimators s (.next t) := by
  rintro _ ⟨⟩
  exact ⟨ha, hd⟩

theorem keepsEstimators_respond (s : State) (r : Response) : KeepsEstimators s (.next (s.respond r)) :=
  keepsEstimators_next rfl rfl

theorem execBegin_keepsEstimators (now : Word32) (s : State) : KeepsEstimators s (execBegin now s) := by
  by_cases h : s.phase = .idle
  · rw [execBegin_idle now h, State.gateArm_eq, State.termChk_eq]
    exact keepsEstimators_next rfl rfl
  · rw [execBegin_busy now h]
    exact keepsEstimators_respond s _

theorem execEnd_keepsEstimators (s : State) : KeepsEstimators s (execEnd s) := by
  by_cases h : s.phase = .idle
  · rw [execEnd_idle h]
    exact keepsEstimators_respond s _
  · rw [execEnd_busy h]
    exact keepsEstimators_next rfl rfl

theorem ctxWrite_keepsEstimators (reg : CtxReg) (data : Word32) (s : State) :
    KeepsEstimators s (ctxWrite reg data s) := by
  cases reg with
  | gate => unfold ctxWrite; cases gateRequest data <;> exact keepsEstimators_next rfl rfl
  | status => unfold ctxWrite; cases statusRequest data <;> exact keepsEstimators_next rfl rfl
  | _ => exact keepsEstimators_next rfl rfl

theorem execCtxwr_keepsEstimators (reg : CtxReg) (data : Word32) (s : State) :
    KeepsEstimators s (execCtxwr reg data s) := by
  by_cases h : s.phase = .idle
  · rw [execCtxwr_idle reg data h]
    exact ctxWrite_keepsEstimators reg data s
  · rw [execCtxwr_busy reg data h]
    exact keepsEstimators_respond s _

theorem execCtxrd_keepsEstimators (reg : CtxReg) (s : State) : KeepsEstimators s (execCtxrd reg s) := by
  unfold execCtxrd
  cases s.ctx reg <;> exact keepsEstimators_respond s _

theorem execMsqrd_keepsEstimators (idx : Word32) (s : State) : KeepsEstimators s (execMsqrd idx s) := by
  unfold execMsqrd
  cases s.msqRead idx.toNat <;> exact keepsEstimators_respond s _

/-- Of the commands other than RESET only a SAMPLE moves an estimator (R322). -/
theorem exec_keepsEstimators {i : Instr} (s : State) (hi : i.isCommand = true) (hreset : i ≠ .reset)
    (hsample : ∀ x y, i ≠ .sample x y) : KeepsEstimators s (exec i s) := by
  cases i with
  | nop => exact keepsEstimators_respond s _
  | beginInv now => exact execBegin_keepsEstimators now s
  | sample x y => exact absurd rfl (hsample x y)
  | endInv => exact execEnd_keepsEstimators s
  | ctxwr reg data => exact execCtxwr_keepsEstimators reg data s
  | ctxrd reg => exact execCtxrd_keepsEstimators reg s
  | msqrd idx => exact execMsqrd_keepsEstimators idx s
  | reset => exact absurd rfl hreset
  | reserved op => exact keepsEstimators_respond s _
  | armEpc => exact execCtxwr_keepsEstimators .gate 1 s
  | armRn16 => exact execCtxwr_keepsEstimators .gate 2 s
  | _ => exact absurd hi Bool.false_ne_true

/-- With the gate OPEN a SAMPLE takes path (b), which has no DC.UPD (R162, R228). -/
theorem execSample_opened_dcEstimator {x y : Scalar} {s t : State} (hg : s.gate = .opened)
    (ht : execSample x y s = .next t) : t.dcEstimator = s.dcEstimator := by
  obtain ⟨-, e⟩ | ⟨-, e⟩ | ⟨-, -, e⟩ | ⟨-, -, e⟩ | ⟨-, -, -, e⟩ | ⟨-, -, a, -, -, e⟩ | ⟨-, hclosed, -⟩ :=
    execSample_cases x y s
  · cases ht.symm.trans e; rfl
  · cases ht.symm.trans e; rfl
  · cases ht.symm.trans e; rfl
  · cases ht.symm.trans e
  · cases ht.symm.trans e
  · cases ht.symm.trans e
    rw [State.openPath_eq]
    rfl
  · exact absurd hg hclosed

/-- Settles O59: the commands that are no SAMPLE, and a SAMPLE with the gate OPEN. -/
theorem onlySamplesMoveTheEstimators : Obligations.OnlySamplesMoveTheEstimators := by
  intro i s t hi hreset ht
  have hkeeps (hsample : ∀ x y, i ≠ .sample x y) := exec_keepsEstimators s hi hreset hsample t ht
  have hdc (h : (∀ x y, i ≠ .sample x y) ∨ s.gate = .opened) : t.dcEstimator = s.dcEstimator := by
    by_cases hsample : ∀ x y, i ≠ .sample x y
    · exact (hkeeps hsample).2
    · push Not at hsample
      obtain ⟨x, y, rfl⟩ := hsample
      exact execSample_opened_dcEstimator (h.resolve_left fun hne => hne x y rfl) ht
  refine ⟨fun hsample => ?_, fun h => ?_⟩
  · simpa [State.averager] using (hkeeps hsample).1
  · simpa [State.dcEstimator] using hdc h

/-! ### The rest of an open window (R204, R206, R207) -/

/-- From s to t the samples zs were consumed and forwarded, corrected with the DC of s, which stayed as it was. -/
structure Forwarded (zs : List IQ) (s t : State) : Prop where
  cfg : t.cfg = s.cfg
  status : t.status = s.status
  fwdLen : t.fwdLen = s.fwdLen
  dc : t.dc = s.dc
  n : t.n = s.n + zs.length
  out : t.out = s.out ++ zs.map (s.cfg.num.csub · s.dc)
  msq : t.msq = s.msq ++ zs.map (fun z => s.cfg.num.msq (s.cfg.num.csub z s.dc))
  written : t.written = s.written + zs.length
  consumed : t.consumed = s.consumed + zs.length

/-- One sample before a forwarded run. -/
theorem Forwarded.cons {z : IQ} {zs : List IQ} {s u t : State} (h : Forwarded [z] s u) (hs : Forwarded zs u t) :
    Forwarded (z :: zs) s t where
  cfg := hs.cfg.trans h.cfg
  status := hs.status.trans h.status
  fwdLen := hs.fwdLen.trans h.fwdLen
  dc := hs.dc.trans h.dc
  n := by simp only [hs.n, h.n, List.length_cons, List.length_nil]; omega
  out := by rw [hs.out, h.out, h.cfg, h.dc, List.append_assoc]; rfl
  msq := by rw [hs.msq, h.msq, h.cfg, h.dc, List.append_assoc]; rfl
  written := by simp only [hs.written, h.written, List.length_cons, List.length_nil]; omega
  consumed := by simp only [hs.consumed, h.consumed, List.length_cons, List.length_nil]; omega

/-- GATE.CLOSE ended the window between s and t, and the last SAMPLE was answered DONE (R206). -/
structure WindowClosed (s t : State) : Prop where
  gate : t.gate = .closed
  phase : t.phase = .stop
  evt : t.evt = s.evt ++ [.evClose]
  done : t.rsp.code = .done

/-- The window goes on between s and t. -/
structure WindowContinues (s t : State) : Prop where
  gate : t.gate = .opened
  phase : t.phase = .run
  evt : t.evt = s.evt

/-- A SAMPLE in an open window is forwarded; it ends the window if it is the last of max(FWD_LEN, 2) samples. -/
theorem execSample_forwarded (z : IQ) {s : State} (h : Inv s) (hp : Processing s) (hg : s.gate = .opened) :
    ∃ t, execSample z.i z.q s = .next t ∧ Inv t ∧ Forwarded [z] s t ∧
      (s.n + 1 < max s.fwdLen.toNat 2 → WindowContinues s t) ∧
      (max s.fwdLen.toNat 2 ≤ s.n + 1 → WindowClosed s t) := by
  obtain ⟨a, -, hi, ha, -⟩ := ringsReadable_of_wf h.withinStep.memory
  have hexec := execSample_opened (i := z.i) (q := z.q) hp hg hi ha
  have hinv := State.openPath_inv (State.averaged_invWithinStep h.withinStep z a) z hp.1 hg
  have hsat : satInc (s.averaged z a).n = s.n + 1 := s.satInc_of_open h.withinStep hg
  obtain ⟨hn, -⟩ := h.withinStep.window.2 hg
  refine ⟨_, hexec, hinv, ?_, fun hlt => ?_, fun hge => ?_⟩ <;> rw [State.openPath_eq, hsat]
  · exact ⟨rfl, rfl, rfl, rfl, rfl, rfl, rfl, rfl, rfl⟩
  · have hmore : ¬ (s.averaged z a).fwdLen.toNat ≤ s.n + 1 := by
      change ¬ s.fwdLen.toNat ≤ s.n + 1
      omega
    simp only [hmore, if_false]
    exact ⟨hg, hp.1, rfl⟩
  · have hdone : (s.averaged z a).fwdLen.toNat ≤ s.n + 1 := (le_max_left _ _).trans hge
    simp only [hdone, if_true]
    exact ⟨rfl, rfl, rfl, rfl⟩

/-- As many samples as an open window still has to forward end it. -/
theorem runInstrs_samplesOf_window {zs : List IQ} {s : State} (h : Inv s) (hp : Processing s) (hg : s.gate = .opened)
    (hlen : s.n + zs.length = max s.fwdLen.toNat 2) :
    ∃ t, runInstrs (samplesOf zs) s = .next t ∧ Forwarded zs s t ∧ WindowClosed s t := by
  induction zs generalizing s with
  | nil =>
    obtain ⟨-, hincomplete, -⟩ := h.withinStep.window.2 hg
    exact absurd hlen hincomplete.ne
  | cons z rest ih =>
    rw [List.length_cons] at hlen
    obtain ⟨u, hu, hinv, hfwd, hcontinues, hcloses⟩ := execSample_forwarded z h hp hg
    rw [runInstrs_samplesOf_cons hu]
    by_cases hlast : rest = []
    · subst hlast
      exact ⟨u, rfl, hfwd, hcloses hlen.ge⟩
    · have hpos : 0 < rest.length := List.length_pos_iff.mpr hlast
      obtain ⟨hopen, hrun, hevt⟩ := hcontinues (by omega)
      have hproc : Processing u := ⟨hrun, by rw [hfwd.cfg, hfwd.status]; exact hp.2⟩
      have hrest : u.n + rest.length = max u.fwdLen.toNat 2 := by
        rw [hfwd.n, hfwd.fwdLen, List.length_singleton]
        omega
      obtain ⟨t, ht, hfwds, hgate, hstop, hclose, hdone⟩ := ih hinv hproc hopen hrest
      exact ⟨t, ht, hfwd.cons hfwds, hgate, hstop, hevt ▸ hclose, hdone⟩

/-- Settles O36: the run that ends the window has forwarded all its samples. -/
theorem windowForwardsItsWholeLength : Obligations.WindowForwardsItsWholeLength := by
  intro s zs h hp hg hlen
  obtain ⟨t, ht, hfwd, hclosed⟩ := runInstrs_samplesOf_window h hp hg hlen
  exact ⟨t, ht, hclosed.gate, hclosed.phase, hfwd.n.trans hlen, hfwd.out, hfwd.msq, hfwd.written, hfwd.consumed,
    hclosed.evt, hclosed.done⟩

end Sys2Proof.Machine

/-! Scope: the edge detector in N.INC, EDGE.FALL and EDGE.RISE (R176, R177, R178), a processed SAMPLE as its
micro-operations (R229), and what the detector does over a run of samples (R181, R182). -/

namespace Sys2Proof.Machine

/-! ### The micro-operations of the detector (R176, R177, R178) -/

/-- Settles O26: N.INC is the saturating count, below its limit and at it. -/
theorem nIncSaturates : Obligations.NIncSaturates := by
  intro s
  have hinc : exec .nInc s = .next { s with n := satInc s.n } := rfl
  refine ⟨fun hlt => ?_, fun hmax => ?_⟩
  · rw [hinc, satInc_of_lt hlt]
  · rw [hinc, satInc_of_le hmax.ge]

theorem exec_edgeFall_of_falls {s : State} (h : s.falls = true) :
    exec .edgeFall s = .next { s with n := 0, edge := .falling } :=
  congrArg Host.Outcome.next (if_pos h)

theorem exec_edgeFall_of_not_falls {s : State} (h : ¬ s.falls = true) : exec .edgeFall s = .next s :=
  congrArg Host.Outcome.next (if_neg h)

theorem exec_edgeRise_of_rises {s : State} (h : s.rises = true) :
    exec .edgeRise s =
      .next { s with p := if s.validPulse then satInc s.p else 0, n := 0, edge := .rising } :=
  congrArg Host.Outcome.next (if_pos h)

theorem exec_edgeRise_of_not_rises {s : State} (h : ¬ s.rises = true) : exec .edgeRise s = .next s :=
  congrArg Host.Outcome.next (if_neg h)

/-- Settles O27: `falls_iff` decides. -/
theorem edgeFallResetsTheCounter : Obligations.EdgeFallResetsTheCounter := by
  refine fun s => ⟨fun hedge hlt => exec_edgeFall_of_falls (s.falls_iff.mpr ⟨hedge, hlt⟩), fun hnot =>
    exec_edgeFall_of_not_falls ?_⟩
  rw [s.falls_iff]
  obtain hedge | hlt := hnot
  · simp [hedge]
  · simp [hlt]

/-- Settles O28: `rises_iff` decides, and on a rise the length of the pulse and the saturation of P. -/
theorem edgeRiseQualifiesThePulse : Obligations.EdgeRiseQualifiesThePulse := by
  intro s
  have hrise (hedge : s.edge = .falling) (hlt : s.cfg.num.lt s.work.thr s.work.m = true) :=
    exec_edgeRise_of_rises (s.rises_iff.mpr ⟨hedge, hlt⟩)
  refine ⟨fun hedge hlt hvalid hp => ?_, fun hedge hlt hvalid hp => ?_, fun hedge hlt hspurious => ?_, fun hnot =>
    exec_edgeRise_of_not_rises ?_⟩
  · rw [hrise hedge hlt, if_pos (s.validPulse_iff.mpr hvalid), satInc_of_lt hp]
  · rw [hrise hedge hlt, if_pos (s.validPulse_iff.mpr hvalid), satInc_of_le hp.ge]
  · rw [hrise hedge hlt, if_neg (mt s.validPulse_iff.mp hspurious.not_gt)]
  · rw [s.rises_iff]
    obtain hedge | hlt := hnot
    · simp [hedge]
    · simp [hlt]

/-! ### A processed SAMPLE as its micro-operations (R229) -/

/-- MAG, AVG.UPD and AVG.THR, which begin both paths. -/
theorem runInstrs_averager {s : State} {a : Scalar} (z : IQ) (rest : List Instr) (hi : s.wi < s.cfg.navg)
    (ha : s.win[s.wi]? = some a) :
    runInstrs (.mag z :: .avgUpd :: .avgThr :: rest) s = runInstrs rest (s.averaged z a) := by
  have hmag : exec (.mag z) s = .next (s.mag z) := rfl
  rw [runInstrs_cons hmag, runInstrs_cons (avgUpdReplacesTheOldestMagnitude (s.mag z) a hi ha)]
  rfl

/-- DC.UPD and N.INC, which come next on path (a). -/
theorem runInstrs_estimator {s : State} {b : IQ} (z : IQ) (rest : List Instr) (hi : s.di < s.cfg.ndc)
    (hb : s.dcw[s.di]? = some b) :
    runInstrs (.dcUpd z :: .nInc :: rest) s = runInstrs rest (s.estimated z b) := by
  rw [runInstrs_cons (dcUpdReplacesTheOldestSample z b s hi hb)]
  rfl

/-- EDGE as it is chooses the transition that is tried (R179). -/
theorem exec_edgeStep (s : State) :
    exec (if s.edge = .rising then .edgeFall else .edgeRise) s = .next s.edgeStep := by
  unfold State.edgeStep
  cases s.edge <;> rfl

/-- After DET.FIRE path (a) adds the count and the response, which carries y if the gate is OPEN now. -/
theorem State.closedPathEnd_eq_detFire {s : State} (z : IQ) (hg : s.gate ≠ .opened) :
    s.closedPathEnd z = { s.detFire z with
      consumed := s.consumed + 1, work := .clear
      rsp := if (s.detFire z).gate = .opened then ⟨.ok, .sample (s.detFire z).work.y⟩ else ⟨.ok, .empty⟩ } := by
  unfold State.closedPathEnd
  by_cases hd : s.detects = true
  · have hfire : s.detFire z = (s.dcSub z).fire := if_pos hd
    have hopen : (s.detFire z).gate = .opened := by rw [hfire, State.fire_eq]
    have hcount : (s.detFire z).consumed = s.consumed := by rw [hfire, State.fire_eq]; rfl
    rw [if_pos hd, if_pos hopen, ← hcount]
    rfl
  · have hfire : s.detFire z = s := if_neg hd
    rw [if_neg hd, hfire, if_neg hg]
    rfl

/-- After GATE.CLOSE path (b) adds the count and the response, which is DONE if the gate is CLOSED now. -/
theorem State.openPath_eq_gateClose {s : State} (z : IQ) (hg : s.gate = .opened) :
    s.openPath z = { (s.gateFwd z).gateClose with
      consumed := s.consumed + 1, work := .clear
      rsp := ⟨if (s.gateFwd z).gateClose.gate = .closed then .done else .ok,
        .sample (s.gateFwd z).gateClose.work.y⟩ } := by
  rw [State.openPath_eq, State.gateClose_eq, State.gateFwd_eq]
  by_cases hdone : s.fwdLen.toNat ≤ satInc s.n <;> simp [State.windowDone, hdone, hg]

@[simp] theorem State.edgeStep_gate (s : State) : s.edgeStep.gate = s.gate := by rw [State.edgeStep_eq]

@[simp] theorem State.edgeStep_consumed (s : State) : s.edgeStep.consumed = s.consumed := by rw [State.edgeStep_eq]

/-- A SAMPLE that the block processes and answers took one of the two paths of R228. -/
theorem execSample_next_of_processing {i q : Scalar} {s t : State} (hp : Processing s)
    (ht : execSample i q s = .next t) :
    (s.gate = .opened ∧ ∃ a, s.wi < s.cfg.navg ∧ s.win[s.wi]? = some a ∧ t = (s.averaged ⟨i, q⟩ a).openPath ⟨i, q⟩) ∨
    (s.gate ≠ .opened ∧ ∃ a b, RingsReadable s a b ∧
      t = ((s.averaged ⟨i, q⟩ a).estimated ⟨i, q⟩ b).edgeStep.closedPathEnd ⟨i, q⟩) := by
  obtain ⟨hidle, -⟩ | ⟨hstop, -⟩ | ⟨-, hdrain, -⟩ | ⟨-, -, e⟩ | ⟨-, -, -, e⟩ | ⟨-, hg, a, hi, ha, e⟩ |
    ⟨-, hg, a, b, hr, e⟩ := execSample_cases i q s
  · cases hp.1.symm.trans hidle
  · cases hp.1.symm.trans hstop
  · cases hp.drains.symm.trans hdrain
  · cases ht.symm.trans e
  · cases ht.symm.trans e
  · cases ht.symm.trans e
    exact .inl ⟨hg, a, hi, ha, rfl⟩
  · cases ht.symm.trans e
    exact .inr ⟨hg, a, b, hr, rfl⟩

/-- Settles O43: the averager, then the path of the gate, whose end is its last micro-operation with the count and the
response. -/
theorem sampleIsItsMicroOperations : Obligations.SampleIsItsMicroOperations := by
  intro i q s t hp ht
  obtain ⟨hg, a, hi, ha, rfl⟩ | ⟨hg, a, b, ⟨hi, ha, hdi, hb⟩, rfl⟩ := execSample_next_of_processing hp ht
  · refine ⟨absurd hg, fun _ => ⟨((s.averaged ⟨i, q⟩ a).gateFwd ⟨i, q⟩).gateClose, ?_, ?_⟩⟩
    · rw [runInstrs_averager ⟨i, q⟩ _ hi ha]
      rfl
    · exact State.openPath_eq_gateClose (s := s.averaged ⟨i, q⟩ a) ⟨i, q⟩ hg
  · refine ⟨fun _ => ⟨((s.averaged ⟨i, q⟩ a).estimated ⟨i, q⟩ b).edgeStep.detFire ⟨i, q⟩, ?_, ?_⟩, fun h => absurd h hg⟩
    · have hedge := exec_edgeStep ((s.averaged ⟨i, q⟩ a).estimated ⟨i, q⟩ b)
      rw [runInstrs_averager ⟨i, q⟩ _ hi ha, runInstrs_estimator (s := s.averaged ⟨i, q⟩ a) ⟨i, q⟩ _ hdi hb]
      exact runInstrs_cons hedge
    · have hend := State.closedPathEnd_eq_detFire (s := ((s.averaged ⟨i, q⟩ a).estimated ⟨i, q⟩ b).edgeStep) ⟨i, q⟩
        (by rw [State.edgeStep_gate]; exact hg)
      rw [State.edgeStep_consumed] at hend
      exact hend

/-! ### The edge transition, by EDGE and the comparison with the threshold (R177, R178, R179) -/

theorem State.edgeStep_of_rising_below {s : State} (hedge : s.edge = .rising) (hlt : s.belowThr = true) :
    s.edgeStep = { s with edge := .falling, n := 0 } := by
  have hfalls : s.falls = true := by rw [State.falls, hedge, hlt]; rfl
  simp only [State.edgeStep, hedge]
  exact if_pos hfalls

theorem State.edgeStep_of_rising_not_below {s : State} (hedge : s.edge = .rising) (hlt : s.belowThr = false) :
    s.edgeStep = s := by
  have hfalls : ¬ s.falls = true := by rw [State.falls, hlt, Bool.and_false]; exact Bool.false_ne_true
  simp only [State.edgeStep, hedge]
  exact if_neg hfalls

theorem State.edgeStep_of_falling_above {s : State} (hedge : s.edge = .falling) (hlt : s.aboveThr = true) :
    s.edgeStep = { s with edge := .rising, n := 0, p := if s.cfg.pw / 2 < s.n then satInc s.p else 0 } := by
  have hrises : s.rises = true := by rw [State.rises, hedge, hlt]; rfl
  simp only [State.edgeStep, hedge, ← State.validPulse_iff]
  exact if_pos hrises

theorem State.edgeStep_of_falling_not_above {s : State} (hedge : s.edge = .falling) (hlt : s.aboveThr = false) :
    s.edgeStep = s := by
  have hrises : ¬ s.rises = true := by rw [State.rises, hlt, Bool.and_false]; exact Bool.false_ne_true
  simp only [State.edgeStep, hedge]
  exact if_neg hrises

/-! ### The detector in one SAMPLE (R178, R179, R180) -/

/-- The block takes samples and looks for a command in them: a state of the invariant that processes its samples with
the gate CLOSED. -/
structure Listening (s : State) : Prop where
  inv : Inv s
  processing : Processing s
  gate : s.gate = .closed

/-- From s to t samples were taken and no command was detected; EDGE, N and P are now these. -/
structure Undetected (s t : State) (edge : Edge) (n p : Nat) : Prop where
  listening : Listening t
  cfg : t.cfg = s.cfg
  out : t.out = s.out
  edge : t.edge = edge
  n : t.n = n
  p : t.p = p

theorem Undetected.trans {s t u : State} {e e' : Edge} {n n' p p' : Nat} (h : Undetected s t e n p)
    (h' : Undetected t u e' n' p') : Undetected s u e' n' p' :=
  { h' with cfg := h'.cfg.trans h.cfg, out := h'.out.trans h.out }

/-- The state on which the edge transition of path (a) works: after the averager, DC.UPD and N.INC (R229). -/
abbrev State.beforeEdge (s : State) (z : IQ) (a : Scalar) (b : IQ) : State := (s.averaged z a).estimated z b

/-- After a transition to these values of EDGE, N and P that completes no command, they are what the SAMPLE leaves. -/
theorem Listening.undetected {s : State} {z b : IQ} {a : Scalar} {edge : Edge} {n p : Nat} (h : Listening s)
    (ht : execSample z.i z.q s = .next ((s.beforeEdge z a b).edgeStep.closedPathEnd z))
    (hstep : (s.beforeEdge z a b).edgeStep = { s.beforeEdge z a b with edge := edge, n := n, p := p })
    (hnot : edge = .falling ∨ n ≤ s.cfg.t1) :
    Undetected s ((s.beforeEdge z a b).edgeStep.closedPathEnd z) edge n p := by
  have hinv := commandResult_inv h.inv (ht ▸ execSample_result z.i z.q s)
  have hd : (s.beforeEdge z a b).edgeStep.detects = false := by
    rw [← Bool.not_eq_true, State.detects_iff, hstep]
    rintro ⟨hedge, hn, -⟩
    obtain hfalling | hle := hnot
    · cases hedge.symm.trans hfalling
    · exact absurd hn hle.not_gt
  rw [State.closedPathEnd_eq, hd, hstep] at hinv ⊢
  exact ⟨⟨hinv, h.processing, h.gate⟩, rfl, rfl, rfl, rfl, rfl⟩

/-- The magnitude of z is below the threshold of the step from s to t (R143, R177). -/
def BelowThr (z : IQ) (s t : State) : Bool :=
  s.cfg.num.lt (s.cfg.num.mag z) (s.cfg.num.tf t.avg s.cfg.threshFraction)

/-- The magnitude of z is above the threshold of the step from s to t (R143, R178). -/
def AboveThr (z : IQ) (s t : State) : Bool :=
  s.cfg.num.lt (s.cfg.num.tf t.avg s.cfg.threshFraction) (s.cfg.num.mag z)

/-- What a SAMPLE from s to t does to EDGE, N, P and the gate while the block listens (R178, R179, R180). -/
structure DetectorStep (z : IQ) (s t : State) : Prop where
  falls : s.edge = .rising → BelowThr z s t = true → Undetected s t .falling 0 s.p
  rises : s.edge = .falling → AboveThr z s t = true →
    Undetected s t .rising 0 (if s.cfg.pw / 2 < satInc s.n then satInc s.p else 0)
  stays_falling : s.edge = .falling → AboveThr z s t = false → Undetected s t s.edge (satInc s.n) s.p
  stays_rising : s.edge = .rising → BelowThr z s t = false → satInc s.n ≤ s.cfg.t1 →
    Undetected s t s.edge (satInc s.n) s.p
  fires : s.edge = .rising → BelowThr z s t = false → s.cfg.t1 < satInc s.n → s.cfg.minPulses < s.p →
    t.gate = .opened ∧ t.n = 1 ∧ t.p = 0 ∧ t.rsp = ⟨.ok, .sample (s.cfg.num.csub z t.dc)⟩

theorem Listening.detectorStep {s t : State} {z : IQ} (h : Listening s) (ht : execSample z.i z.q s = .next t) :
    DetectorStep z s t := by
  obtain ⟨hopen, -⟩ | ⟨-, a, b, -, rfl⟩ := execSample_next_of_processing h.processing ht
  · cases h.gate.symm.trans hopen
  have havg : ((s.beforeEdge z a b).edgeStep.closedPathEnd z).avg = (s.beforeEdge z a b).avg := by
    rw [State.closedPathEnd_eq, State.edgeStep_eq]
  have hbelow : (s.beforeEdge z a b).belowThr = BelowThr z s ((s.beforeEdge z a b).edgeStep.closedPathEnd z) := by
    rw [BelowThr, havg]
    rfl
  have habove : (s.beforeEdge z a b).aboveThr = AboveThr z s ((s.beforeEdge z a b).edgeStep.closedPathEnd z) := by
    rw [AboveThr, havg]
    rfl
  refine ⟨fun hedge hlt => ?_, fun hedge hlt => ?_, fun hedge hlt => ?_, fun hedge hlt hn => ?_,
    fun hedge hlt hn hp => ?_⟩
  · exact h.undetected ht (State.edgeStep_of_rising_below hedge (hbelow.trans hlt)) (.inl rfl)
  · exact h.undetected ht (State.edgeStep_of_falling_above hedge (habove.trans hlt)) (.inr (Nat.zero_le _))
  · exact h.undetected ht (State.edgeStep_of_falling_not_above hedge (habove.trans hlt)) (.inl hedge)
  · exact h.undetected ht (State.edgeStep_of_rising_not_below hedge (hbelow.trans hlt)) (.inr hn)
  · have hd : (s.beforeEdge z a b).edgeStep.detects = true := by
      rw [State.edgeStep_of_rising_not_below (s := s.beforeEdge z a b) hedge (hbelow.trans hlt)]
      exact (State.detects_iff _).mpr ⟨hedge, hn, hp⟩
    rw [State.closedPathEnd_eq, hd, State.edgeStep_eq]
    exact ⟨rfl, rfl, rfl, rfl⟩

/-! ### The detector over a run of samples (R181, R182) -/

/-- A run of samples, none of which moves EDGE or completes a command, adds its length to N. R is what the samples
still to come must meet, and with it each leaves the detector so. -/
theorem runInstrs_samplesOf_undetected {R : State → List IQ → Prop}
    (hR : ∀ {s t : State} {z : IQ} {rest : List IQ}, Listening s → execSample z.i z.q s = .next t →
      R s (z :: rest) → Undetected s t s.edge (s.n + 1) s.p ∧ R t rest)
    (zs : List IQ) {s : State} (h : Listening s) (hs : R s zs) :
    ∃ u, runInstrs (samplesOf zs) s = .next u ∧ Undetected s u s.edge (s.n + zs.length) s.p ∧ R u [] := by
  induction zs generalizing s with
  | nil => exact ⟨s, rfl, ⟨h, rfl, rfl, rfl, rfl, rfl⟩, hs⟩
  | cons z rest ih =>
    obtain ⟨t, ht, -⟩ := execSample_answered z h.inv h.processing.1
    obtain ⟨hstep, hrest⟩ := hR h ht hs
    obtain ⟨u, hu, hrun, hend⟩ := ih hstep.listening hrest
    rw [hstep.edge, hstep.n, hstep.p] at hrun
    refine ⟨u, (runInstrs_samplesOf_cons ht).trans hu, ?_, hend⟩
    rw [List.length_cons, Nat.add_comm rest.length, ← Nat.add_assoc]
    exact hstep.trans hrun

/-- The samples zs, before the samples after, keep EDGE = RISING and N at most T1. -/
structure StaysRising (after : List IQ) (s : State) (zs : List IQ) : Prop where
  edge : s.edge = .rising
  n : s.n + zs.length ≤ s.cfg.t1
  high : NeverBelow s (zs ++ after)

theorem StaysRising.step {after rest : List IQ} {s t : State} {z : IQ} (h : Listening s)
    (ht : execSample z.i z.q s = .next t) (hs : StaysRising after s (z :: rest)) :
    Undetected s t s.edge (s.n + 1) s.p ∧ StaysRising after t rest := by
  obtain ⟨hedge, hn, hhigh⟩ := hs
  obtain ⟨hlt, hrest⟩ := hhigh t ht
  obtain ⟨-, -, ⟨ht1, -⟩, -⟩ := h.inv.withinStep.config
  rw [List.length_cons] at hn
  have hsat : satInc s.n = s.n + 1 := satInc_of_lt (by unfold cntMax at ht1; omega)
  have hstep := (h.detectorStep ht).stays_rising hedge hlt (by omega)
  rw [hsat] at hstep
  exact ⟨hstep, hstep.edge.trans hedge, by rw [hstep.n, hstep.cfg]; omega, hrest⟩

/-- The samples zs keep EDGE = FALLING and N below its limit. -/
structure StaysFalling (s : State) (zs : List IQ) : Prop where
  edge : s.edge = .falling
  n : s.n + zs.length < 2 ^ 32
  low : AlwaysBelow s zs

theorem StaysFalling.step {rest : List IQ} {s t : State} {z : IQ} (h : Listening s)
    (ht : execSample z.i z.q s = .next t) (hs : StaysFalling s (z :: rest)) :
    Undetected s t s.edge (s.n + 1) s.p ∧ StaysFalling t rest := by
  obtain ⟨hedge, hn, hlow⟩ := hs
  obtain ⟨-, hgt, hrest⟩ := hlow t ht
  rw [List.length_cons] at hn
  have hsat : satInc s.n = s.n + 1 := satInc_of_lt (by omega)
  have hstep := (h.detectorStep ht).stays_falling hedge hgt
  rw [hsat] at hstep
  exact ⟨hstep, hstep.edge.trans hedge, by rw [hstep.n]; omega, hrest⟩

/-- Settles O30: T1 samples count N up to T1, and the next makes it exceed T1. -/
theorem detectionFiresAtSampleT1PlusOne : Obligations.DetectionFiresAtSampleT1PlusOne := by
  intro s zs z hinv hp hg hedge hn hpulses hlen hhigh
  obtain ⟨u, hu, hrun, hend⟩ := runInstrs_samplesOf_undetected (StaysRising.step (after := [z])) zs ⟨hinv, hp, hg⟩
    ⟨hedge, by omega, hhigh⟩
  have hcount : u.n = s.cfg.t1 := by rw [hrun.n]; omega
  obtain ⟨t, ht, -⟩ := execSample_answered z hrun.listening.inv hrun.listening.processing.1
  obtain ⟨hlt, -⟩ := hend.high t ht
  obtain ⟨-, -, ⟨ht1, -⟩, -⟩ := hinv.withinStep.config
  have hsat : satInc u.n = u.n + 1 := satInc_of_lt (hcount ▸ ht1)
  obtain ⟨hopen, hone, hzero, hrsp⟩ := (hrun.listening.detectorStep ht).fires hend.edge hlt
    (by rw [hsat, hcount, hrun.cfg]; omega) (by rw [hrun.cfg, hrun.p]; exact hpulses)
  exact ⟨u, t, hu, hrun.listening.gate, hcount, hrun.out, ht, hopen, hone, hzero, hrun.cfg ▸ hrsp⟩

/-- A low run that begins at EDGE = RISING falls with its first sample and counts the others (R177, R182). -/
theorem runInstrs_samplesOf_low {s : State} {z : IQ} {zs : List IQ} (h : Listening s) (hedge : s.edge = .rising)
    (hlen : zs.length < 2 ^ 32) (hlow : AlwaysBelow s (z :: zs)) :
    ∃ u, runInstrs (samplesOf (z :: zs)) s = .next u ∧ Undetected s u .falling zs.length s.p := by
  obtain ⟨t, ht, -⟩ := execSample_answered z h.inv h.processing.1
  obtain ⟨hlt, -, hrest⟩ := hlow t ht
  have hfall := (h.detectorStep ht).falls hedge hlt
  obtain ⟨u, hu, hrun, -⟩ := runInstrs_samplesOf_undetected StaysFalling.step zs hfall.listening
    ⟨hfall.edge, by rw [hfall.n]; omega, hrest⟩
  rw [hfall.edge, hfall.n, hfall.p, Nat.zero_add] at hrun
  exact ⟨u, (runInstrs_samplesOf_cons ht).trans hu, hfall.trans hrun⟩

/-- Settles O31: q low samples leave N = q - 1, and the sample above the threshold counts itself before it tests N. -/
theorem lowRunOfQSamplesQualifiesThePulse : Obligations.LowRunOfQSamplesQualifiesThePulse := by
  intro s u zs z t hinv hp hg hedge hpos hlen hlow hu ht habove
  obtain ⟨first, rest, rfl⟩ := List.exists_cons_of_length_pos hpos
  rw [List.length_cons] at *
  obtain ⟨v, hv, hrun⟩ := runInstrs_samplesOf_low ⟨hinv, hp, hg⟩ hedge (by omega) hlow
  cases hu.symm.trans hv
  have hsat : satInc u.n = rest.length + 1 := by rw [hrun.n, satInc_of_lt (by omega)]
  have hrise := (hrun.listening.detectorStep ht).rises hrun.edge (by rw [AboveThr, hrun.cfg]; exact habove)
  rw [hsat, hrun.cfg, hrun.p] at hrise
  refine ⟨hrise.edge, hrise.n, hrise.listening.gate, fun hvalid hroom => ?_, fun hspurious => ?_⟩
  · rw [hrise.p, if_pos hvalid, satInc_of_lt hroom]
  · rw [hrise.p, if_neg hspurious.not_gt]

end Sys2Proof.Machine

/-! Scope: the gate controller in GATE.ARM, GATE.OPEN and GATE.CLOSE (R201, R203, R206), and the changes of GATE that a
command can make (R200). -/

namespace Sys2Proof.Machine

/-! ### The micro-operations of the gate (R201, R206) -/

theorem exec_gateArm_of_seekEpc {s : State} (hg : s.gate = .seekEpc) :
    exec .gateArm s = .next (s.armed s.cfg.lEpc) := by
  simp only [exec, execGateArm, State.gateArm, hg]

theorem exec_gateArm_of_seekRn16 {s : State} (hg : s.gate = .seekRn16) :
    exec .gateArm s = .next (s.armed s.cfg.lRn16) := by
  simp only [exec, execGateArm, State.gateArm, hg]

theorem exec_gateArm_of_no_request {s : State} (hg : s.gate = .closed ∨ s.gate = .opened) :
    exec .gateArm s = .next s := by
  obtain hg | hg := hg <;> simp only [exec, execGateArm, State.gateArm, hg]

/-- A length below 2^32 is what its register shows (R34). -/
theorem State.armed_of_lt {len : Nat} (s : State) (h : len < 2 ^ 32) :
    s.armed len = { s with fwdLen := BitVec.ofNat 32 len, gate := .closed, n := 0 } := by
  rw [State.armed, regWord_of_lt h]

/-- Settles O32: one arming per request, with the length in its register. -/
theorem gateArmLoadsTheWindowLength : Obligations.GateArmLoadsTheWindowLength := by
  refine fun s hEpc hRn16 => ⟨fun hg => ?_, fun hg => ?_, exec_gateArm_of_no_request⟩
  · rw [exec_gateArm_of_seekEpc hg, s.armed_of_lt hEpc]
  · rw [exec_gateArm_of_seekRn16 hg, s.armed_of_lt hRn16]

/-- Settles O35: `windowDone_iff` decides. -/
theorem gateCloseEndsTheWindow : Obligations.GateCloseEndsTheWindow :=
  fun s => ⟨fun hdone => congrArg Host.Outcome.next (if_pos (s.windowDone_iff.mpr hdone)),
    fun hmore => congrArg Host.Outcome.next (if_neg (mt s.windowDone_iff.mp hmore.not_ge))⟩

/-! ### What each command does to GATE (R200) -/

theorem gateRequest_eq_some {data : Word32} {g : Gate} (h : gateRequest data = some g) :
    (data = 1 ∧ g = .seekEpc) ∨ (data = 2 ∧ g = .seekRn16) := by
  unfold gateRequest at h
  split at h
  · next hd => exact .inl ⟨hd, (Option.some.inj h).symm⟩
  · split at h
    · next hd => exact .inr ⟨hd, (Option.some.inj h).symm⟩
    · cases h

/-- In IDLE a CTXWR changes GATE only at its own address, and to the request that the data names (R263). -/
theorem ctxWrite_gate {reg : CtxReg} {data : Word32} {s t : State} (ht : ctxWrite reg data s = .next t) :
    t.gate = s.gate ∨ (reg = .gate ∧ gateRequest data = some t.gate) := by
  cases reg with
  | gate =>
    unfold ctxWrite at ht
    cases hg : gateRequest data with
    | some g => rw [hg] at ht; cases ht; exact .inr ⟨rfl, rfl⟩
    | none => rw [hg] at ht; cases ht; exact .inl rfl
  | status =>
    unfold ctxWrite at ht
    cases hst : statusRequest data with
    | some st => rw [hst] at ht; cases ht; exact .inl rfl
    | none => rw [hst] at ht; cases ht; exact .inl rfl
  | _ => cases ht; exact .inl rfl

theorem execCtxwr_gate {reg : CtxReg} {data : Word32} {s t : State} (ht : execCtxwr reg data s = .next t) :
    t.gate = s.gate ∨
    (reg = .gate ∧ s.phase = .idle ∧ ((data = 1 ∧ t.gate = .seekEpc) ∨ (data = 2 ∧ t.gate = .seekRn16))) := by
  by_cases hidle : s.phase = .idle
  · rw [execCtxwr_idle reg data hidle] at ht
    exact (ctxWrite_gate ht).imp_right fun ⟨hreg, hg⟩ => ⟨hreg, hidle, gateRequest_eq_some hg⟩
  · cases ht.symm.trans (execCtxwr_busy reg data hidle)
    exact .inl rfl

/-- BEGIN changes GATE only by GATE.ARM, which answers a request (R201, R226). -/
theorem execBegin_gate {now : Word32} {s t : State} (ht : execBegin now s = .next t) :
    t.gate = s.gate ∨
    (s.gate = .seekEpc ∧ t.gate = .closed ∧ t.fwdLen = regWord s.cfg.lEpc ∧ t.n = 0) ∨
    (s.gate = .seekRn16 ∧ t.gate = .closed ∧ t.fwdLen = regWord s.cfg.lRn16 ∧ t.n = 0) := by
  by_cases hidle : s.phase = .idle
  · rw [execBegin_idle now hidle, State.gateArm_eq, State.termChk_eq] at ht
    cases ht
    cases hg : s.gate with
    | seekEpc => exact .inr (.inl ⟨rfl, rfl, rfl, rfl⟩)
    | seekRn16 => exact .inr (.inr ⟨rfl, rfl, rfl, rfl⟩)
    | closed => exact .inl rfl
    | opened => exact .inl rfl
  · cases ht.symm.trans (execBegin_busy now hidle)
    exact .inl rfl

theorem execEnd_gate {s t : State} (ht : execEnd s = .next t) : t.gate = s.gate := by
  by_cases hidle : s.phase = .idle
  · cases ht.symm.trans (execEnd_idle hidle)
    rfl
  · cases ht.symm.trans (execEnd_busy hidle)
    rfl

theorem execCtxrd_gate {reg : CtxReg} {s t : State} (ht : execCtxrd reg s = .next t) : t.gate = s.gate := by
  unfold execCtxrd at ht
  split at ht <;> (cases ht; rfl)

theorem execMsqrd_gate {idx : Word32} {s t : State} (ht : execMsqrd idx s = .next t) : t.gate = s.gate := by
  unfold execMsqrd at ht
  split at ht <;> (cases ht; rfl)

/-- The end of path (b) leaves the gate, or finds the window complete and closes it (R206). -/
theorem State.openPath_gate (s : State) (z : IQ) :
    (s.openPath z).gate = s.gate ∨
    ((s.openPath z).gate = .closed ∧ (s.openPath z).phase = .stop ∧ s.fwdLen.toNat ≤ (s.openPath z).n) := by
  rw [State.openPath_eq]
  by_cases hdone : s.fwdLen.toNat ≤ satInc s.n <;> simp [hdone]

/-- What a detection leaves after the edge transition, seen from s before it (R180, R203). -/
structure CommandDetected (s t : State) : Prop where
  n : t.n = 1
  p : t.p = 0
  edge : t.edge = .rising
  edge_before : s.edge = .rising
  delay : s.cfg.t1 < s.n
  pulses : s.cfg.minPulses < s.p
  evt : t.evt = s.evt ++ [.evOpen]
  ov : t.rsp.ov = true

/-- The edge transition and the end of path (a) leave the gate, or a command is detected and opens it (R180). -/
theorem State.edgeStep_closedPathEnd_gate (s : State) (z : IQ) :
    (s.edgeStep.closedPathEnd z).gate = s.gate ∨
    ((s.edgeStep.closedPathEnd z).gate = .opened ∧ CommandDetected s (s.edgeStep.closedPathEnd z)) := by
  cases hd : s.edgeStep.detects with
  | false => rw [State.closedPathEnd_eq, hd]; exact .inl s.edgeStep_gate
  | true =>
    obtain ⟨hedge, -, hn, hp⟩ := s.edgeStep_detects_iff.mp hd
    obtain ⟨hrising, -⟩ := s.edgeStep.detects_iff.mp hd
    have hevt : s.edgeStep.evt ++ [.evOpen] = s.evt ++ [.evOpen] := by rw [State.edgeStep_eq]
    rw [State.closedPathEnd_eq, hd]
    exact .inr ⟨rfl, rfl, rfl, hrising, hedge, hn, hp, hevt, rfl⟩

/-- A SAMPLE leaves the gate, opens it on a detection on path (a), or closes a complete window on path (b)
(R203, R206). Before the edge transition N counts this sample (R176). -/
theorem execSample_gate {i q : Scalar} {s t : State} (ht : execSample i q s = .next t) :
    t.gate = s.gate ∨
    (s.gate ≠ .opened ∧ t.gate = .opened ∧ s.phase = .run ∧ CommandDetected { s with n := satInc s.n } t) ∨
    (s.gate = .opened ∧ t.gate = .closed ∧ t.phase = .stop ∧ s.fwdLen.toNat ≤ t.n) := by
  obtain ⟨-, e⟩ | ⟨-, e⟩ | ⟨-, -, e⟩ | ⟨-, -, e⟩ | ⟨-, -, -, e⟩ | ⟨-, hg, a, -, -, e⟩ | ⟨hp, hg, a, b, -, e⟩ :=
    execSample_cases i q s <;> cases ht.symm.trans e
  · exact .inl rfl
  · exact .inl rfl
  · exact .inl rfl
  · exact ((s.averaged ⟨i, q⟩ a).openPath_gate ⟨i, q⟩).imp_right fun hclosed => .inr ⟨hg, hclosed⟩
  · obtain hsame | ⟨hopen, hdet⟩ := (s.beforeEdge ⟨i, q⟩ a b).edgeStep_closedPathEnd_gate ⟨i, q⟩
    · exact .inl hsame
    · exact .inr (.inl ⟨hg, hopen, hp.1, { hdet with }⟩)

/-! ### The transition table (R200) and the entry into OPEN (R203) -/

/-- Settles O37, command by command: each either leaves GATE or is in its own row. -/
theorem gateTransitionsAreTheTable : Obligations.GateTransitionsAreTheTable := by
  intro i s t hi ht hne
  cases i with
  | nop => cases ht; exact absurd rfl hne
  | beginInv now =>
    obtain hEpc | hRn16 := (execBegin_gate ht).resolve_left hne
    · exact .inr (.inr (.inl ⟨⟨now, rfl⟩, hEpc⟩))
    · exact .inr (.inr (.inr (.inl ⟨⟨now, rfl⟩, hRn16⟩)))
  | sample x y =>
    obtain ⟨hg, hopen, -⟩ | hclosed := (execSample_gate ht).resolve_left hne
    · exact .inr (.inr (.inr (.inr (.inl ⟨⟨x, y, rfl⟩, hg, hopen⟩))))
    · exact .inr (.inr (.inr (.inr (.inr (.inl ⟨⟨x, y, rfl⟩, hclosed⟩)))))
  | endInv => exact absurd (execEnd_gate ht) hne
  | ctxwr reg data =>
    obtain ⟨rfl, hidle, ⟨rfl, hEpc⟩ | ⟨rfl, hRn16⟩⟩ := (execCtxwr_gate ht).resolve_left hne
    · exact .inl ⟨rfl, hidle, hEpc⟩
    · exact .inr (.inl ⟨rfl, hidle, hRn16⟩)
  | ctxrd reg => exact absurd (execCtxrd_gate ht) hne
  | msqrd idx => exact absurd (execMsqrd_gate ht) hne
  | reset => cases ht; exact .inr (.inr (.inr (.inr (.inr (.inr ⟨rfl, rfl⟩)))))
  | reserved op => cases ht; exact absurd rfl hne
  | armEpc =>
    obtain ⟨-, hidle, ⟨-, hEpc⟩ | ⟨hdata, -⟩⟩ := (execCtxwr_gate (reg := .gate) (data := 1) ht).resolve_left hne
    · exact .inl ⟨rfl, hidle, hEpc⟩
    · cases hdata
  | armRn16 =>
    obtain ⟨-, hidle, ⟨hdata, -⟩ | ⟨-, hRn16⟩⟩ := (execCtxwr_gate (reg := .gate) (data := 2) ht).resolve_left hne
    · cases hdata
    · exact .inr (.inl ⟨rfl, hidle, hRn16⟩)
  | _ => exact absurd hi Bool.false_ne_true

/-- The only row of the table that ends in OPEN is a SAMPLE's. -/
theorem sample_of_opens_gate {i : Instr} {s t : State} (hi : i.isCommand = true) (hg : s.gate ≠ .opened)
    (ht : exec i s = .next t) (hopen : t.gate = .opened) : ∃ x y, i = .sample x y := by
  obtain ⟨-, -, h⟩ | ⟨-, -, h⟩ | ⟨-, -, h, -⟩ | ⟨-, -, h, -⟩ | ⟨hsample, -⟩ | ⟨-, -, h, -⟩ | ⟨-, h⟩ :=
    gateTransitionsAreTheTable i s t hi ht (hopen ▸ hg.symm)
  case inr.inr.inr.inr.inl => exact hsample
  all_goals cases hopen.symm.trans h

/-- Settles O33: the row of the table that ends in OPEN, and what a SAMPLE that opens the gate detected. -/
theorem onlyATriggerSampleOpensTheGate : Obligations.OnlyATriggerSampleOpensTheGate := by
  refine ⟨fun _ => rfl, fun i s t hi hg ht hopen => ?_⟩
  obtain ⟨x, y, rfl⟩ := sample_of_opens_gate hi hg ht hopen
  obtain hsame | ⟨-, -, hrun, hdet⟩ | ⟨h, -⟩ := execSample_gate ht
  · exact absurd (hsame.symm.trans hopen) hg
  · exact ⟨⟨x, y, rfl⟩, hrun, hdet.n, hdet.p, hdet.edge, hdet.edge_before, hdet.delay, hdet.pulses, hdet.evt, hdet.ov⟩
  · exact absurd h hg

end Sys2Proof.Machine

/-! Scope: the stream router in NOP, BEGIN, END and INVOKE (R226, R234, R235, R236), in a SAMPLE that is not processed
(R231, R232), and in what a processed one does not read: STATUS under CONTINUE (R232) and the place where a batch is split
(R238). -/

namespace Sys2Proof.Machine

/-- Settles O8. -/
theorem nopAnswersOkAndChangesNothing : Obligations.NopAnswersOkAndChangesNothing := fun _ => rfl

/-- Settles O39: in STOP the sample is answered, in IDLE it is an error, and neither reaches the averager. -/
theorem sampleOutsideRunIsNotConsumed : Obligations.SampleOutsideRunIsNotConsumed :=
  fun i q _ => ⟨execSample_stop i q, execSample_idle i q⟩

/-- Settles O44. -/
theorem endReturnsTheCounts : Obligations.EndReturnsTheCounts := fun _ => ⟨execEnd_busy, execEnd_idle⟩

/-- Settles O46: INVOKE goes no further than a BEGIN that does not answer OK. -/
theorem invokeOutsideIdleAnswersErrPhase : Obligations.InvokeOutsideIdleAnswersErrPhase := by
  intro now batch s hbusy
  have hbegin : execBegin now s = .next (s.respond (.plain .errPhase)) := execBegin_busy now hbusy
  show execInvoke now batch s = _
  rw [execInvoke, hbegin]
  rfl

/-! ### BEGIN (R226) -/

theorem State.gateArm_of_no_request {s : State} (hEpc : s.gate ≠ .seekEpc) (hRn16 : s.gate ≠ .seekRn16) :
    s.gateArm = s := by
  unfold State.gateArm
  split
  · next hg => exact absurd hg hEpc
  · next hg => exact absurd hg hRn16
  · rfl
  · rfl

/-- GATE.ARM over lengths that fit their register (R201). -/
theorem State.gateArm_of_lt {s : State} (hEpc : s.cfg.lEpc < 2 ^ 32) (hRn16 : s.cfg.lRn16 < 2 ^ 32) :
    s.gateArm = { s with
      gate := if s.gate = .opened then .opened else .closed
      fwdLen := if s.gate = .seekEpc then BitVec.ofNat 32 s.cfg.lEpc
        else if s.gate = .seekRn16 then BitVec.ofNat 32 s.cfg.lRn16 else s.fwdLen
      n := if s.gate = .seekEpc ∨ s.gate = .seekRn16 then 0 else s.n } := by
  rw [State.gateArm_eq]
  cases hg : s.gate <;> simp [regWord_of_lt hEpc, regWord_of_lt hRn16]

/-- Settles O38: TERM.CHK decides `ends`, GATE.ARM answers the request, and then the invocation starts. -/
theorem beginStartsAnInvocation : Obligations.BeginStartsAnInvocation := by
  intro now s hEpc hRn16
  refine ⟨fun hidle => ⟨s.terminates, s.terminates_iff, ?_⟩, execBegin_busy now⟩
  show execBegin now s = _
  rw [execBegin_idle now hidle, State.gateArm_of_lt (by simpa using hEpc) (by simpa using hRn16), State.termChk_eq]
  rfl

/-! ### What a processed SAMPLE does not read -/

/-- s with another STATUS, with its counts ahead by d and e, and with another response. -/
def State.varied (s : State) (st : Status) (d e : Nat) (r : Response) : State :=
  { s with status := st, consumed := s.consumed + d, written := s.written + e, rsp := r }

theorem State.openPath_varied (s : State) (z : IQ) (st : Status) (d e : Nat) (r : Response) :
    (s.varied st d e r).openPath z = (s.openPath z).varied st d e (s.openPath z).rsp := by
  simp only [State.openPath_eq, State.varied, Nat.add_right_comm]

theorem State.edgeStep_varied (s : State) (st : Status) (d e : Nat) (r : Response) :
    (s.varied st d e r).edgeStep = s.edgeStep.varied st d e r := by
  simp only [State.edgeStep_eq]
  rfl

theorem State.closedPathEnd_varied (s : State) (z : IQ) (st : Status) (d e : Nat) (r : Response) :
    (s.varied st d e r).closedPathEnd z = (s.closedPathEnd z).varied st d e (s.closedPathEnd z).rsp := by
  have hdet : (s.varied st d e r).detects = s.detects := rfl
  simp only [State.closedPathEnd_eq, hdet]
  cases s.detects with
  | false => simp only [State.varied, Nat.add_right_comm, Bool.false_eq_true, if_false]
  | true =>
    simp only [State.varied, Nat.add_right_comm, if_true]
    rfl

/-- Where both states process their samples, neither STATUS nor the counts nor the response decides what a SAMPLE
does (R228). -/
theorem execSample_varied {z : IQ} {s t : State} (st : Status) (d e : Nat) (r : Response) (hp : Processing s)
    (hp' : Processing (s.varied st d e r)) (ht : execSample z.i z.q s = .next t) :
    execSample z.i z.q (s.varied st d e r) = .next (t.varied st d e t.rsp) := by
  obtain ⟨hg, a, hi, ha, rfl⟩ | ⟨hg, a, b, hrings, rfl⟩ := execSample_next_of_processing hp ht
  · rw [execSample_opened (s := s.varied st d e r) hp' hg hi ha, ← State.openPath_varied]
    rfl
  · rw [execSample_closed (s := s.varied st d e r) hp' hg hrings, ← State.closedPathEnd_varied _ _ _ _ _ r,
      ← State.edgeStep_varied]
    rfl

theorem State.phase_cases (s : State) : s.phase = .idle ∨ s.phase = .stop ∨ s.phase = .run := by
  cases s.phase <;> simp

/-- Settles O40: under CONTINUE every SAMPLE in RUN is processed, with either STATUS. -/
theorem terminationPolicyGovernsSample : Obligations.TerminationPolicyGovernsSample := by
  refine fun i q s => ⟨fun hrun hdrain hterm => execSample_drain i q hrun (s.drains_iff.mpr ⟨hdrain, hterm⟩),
    fun hcont st t ht => ?_⟩
  change execSample i q s = .next t at ht
  obtain hidle | hstop | hrun := s.phase_cases
  · cases ht.symm.trans (execSample_idle i q hidle)
    exact execSample_idle (s := { s with status := st }) i q hidle
  · cases ht.symm.trans (execSample_stop i q hstop)
    exact execSample_stop (s := { s with status := st }) i q hstop
  · have hprocess (u : State) (hphase : u.phase = .run) (hcfg : u.cfg = s.cfg) : Processing u :=
      ⟨hphase, fun hdrain => by simp [hcfg, hcont] at hdrain⟩
    exact execSample_varied (z := ⟨i, q⟩) st 0 0 s.rsp (hprocess s hrun rfl) (hprocess _ hrun rfl) ht

/-! ### Between the samples of an invocation -/

/-- The registers of TERM.CHK's condition (R262). -/
def State.termination (s : State) : Config × Word32 × Word32 × Status := (s.cfg, s.nq, s.ntags, s.status)

theorem State.terminates_of_termination {s t : State} (h : t.termination = s.termination) :
    t.terminates = s.terminates := by
  obtain ⟨hcfg, hnq, hntags, hstatus⟩ : t.cfg = s.cfg ∧ t.nq = s.nq ∧ t.ntags = s.ntags ∧ t.status = s.status := by
    simpa [State.termination] using h
  rw [State.terminates, State.terminates, hcfg, hnq, hntags, hstatus]

/-- No SAMPLE writes a register of TERM.CHK's condition. -/
theorem execSample_termination {i q : Scalar} {s t : State} (ht : execSample i q s = .next t) :
    t.termination = s.termination := by
  obtain ⟨-, e⟩ | ⟨-, e⟩ | ⟨-, -, e⟩ | ⟨-, -, e⟩ | ⟨-, -, -, e⟩ | ⟨-, -, a, -, -, e⟩ | ⟨-, -, a, b, -, e⟩ :=
    execSample_cases i q s <;> cases ht.symm.trans e
  · rfl
  · rfl
  · rfl
  · rw [State.openPath_eq]
    rfl
  · rw [State.closedPathEnd_eq, State.edgeStep_eq]
    rfl

theorem execSample_status {i q : Scalar} {s t : State} (ht : execSample i q s = .next t) : t.status = s.status :=
  congrArg (·.2.2.2) (execSample_termination ht)

/-- s with its counts ahead by d and e and with another response: s in an invocation that began earlier. -/
def State.ahead (s : State) (d e : Nat) (r : Response) : State := s.varied s.status d e r

/-- A SAMPLE in RUN reads neither the counts nor the response, whether it is drained or processed. -/
theorem execSample_ahead {z : IQ} {s t : State} (d e : Nat) (r : Response) (hrun : s.phase = .run)
    (ht : execSample z.i z.q s = .next t) :
    execSample z.i z.q (s.ahead d e r) = .next (t.ahead d e t.rsp) := by
  cases hd : s.drains with
  | true =>
    cases ht.symm.trans (execSample_drain z.i z.q hrun hd)
    rw [execSample_drain (s := s.ahead d e r) z.i z.q hrun hd]
    simp only [State.ahead, State.varied, State.respond, State.consume, Nat.add_right_comm]
  | false =>
    have hp : Processing s := ⟨hrun, fun hdrain hterm => by simp [State.drains, hdrain, hterm] at hd⟩
    rw [State.ahead, State.ahead, execSample_status ht]
    exact execSample_varied s.status d e r hp hp ht

/-- TERM.CHK leaves its own condition false: the stamp is not made twice (R262). -/
theorem State.begun_terminates (s : State) (now : Word32) : (s.begun now).terminates = false := by
  have hsame : (s.begun now).termination = (s.termChk now).termination := by
    rw [State.begun, State.gateArm_eq]
    rfl
  rw [State.terminates_of_termination hsame, State.termChk_eq]
  cases h : s.terminates with
  | true => simp [State.terminates]
  | false => exact h

/-- In an invocation after its BEGIN and after each SAMPLE that was answered OK: the next sample is awaited. -/
structure Awaiting (s : State) : Prop where
  inv : Inv s
  run : s.phase = .run
  ok : s.rsp.code = .ok
  checked : s.terminates = false

theorem State.begun_awaiting {s : State} (h : Inv s) (now : Word32) : Awaiting (s.begun now) where
  inv := State.respond_inv (State.begin_inv h now) _
  run := rfl
  ok := rfl
  checked := s.begun_terminates now

/-- A sample is answered DONE, or the next one is awaited. -/
theorem Awaiting.sample {s : State} (h : Awaiting s) (z : IQ) :
    ∃ t, execSample z.i z.q s = .next t ∧ (t.rsp.code = .done ∨ Awaiting t) := by
  obtain ⟨t, ht, hinv, hans⟩ := execSample_answered z h.inv h.run
  refine ⟨t, ht, hans.done_or_run.imp And.left fun ⟨hok, hrun⟩ => ⟨hinv, hrun, hok, ?_⟩⟩
  rw [State.terminates_of_termination (execSample_termination ht), h.checked]

/-! ### The sample loop over a batch in two parts -/

/-- The loop over A ends with DONE, whatever follows, or goes on with B from where A ends (R236). -/
theorem offerAll_append {A B outs outs' : List IQ} {s u : State} (h : Awaiting s)
    (hA : offerAll outs s A = .next (u, outs')) :
    (u.rsp.code = .done ∧ offerAll outs s (A ++ B) = .next (u, outs')) ∨
    (Awaiting u ∧ offerAll outs s (A ++ B) = offerAll outs' u B) := by
  induction A generalizing s outs with
  | nil => cases hA; exact .inr ⟨h, rfl⟩
  | cons z rest ih =>
    obtain ⟨t, ht, hdone | hnext⟩ := h.sample z
    · cases hA.symm.trans (offerAll_cons_done ht hdone)
      exact .inl ⟨hdone, offerAll_cons_done ht hdone⟩
    · rw [offerAll_cons_ok ht hnext.ok] at hA
      rw [List.cons_append, offerAll_cons_ok ht hnext.ok]
      exact ih hnext hA

/-- The sample loop reads neither the counts nor the response of its start, and only adds to the outputs before it. -/
theorem offerAll_ahead {B pre outs outs' : List IQ} {s v : State} (d e : Nat) (r : Response) (h : Awaiting s)
    (hB : offerAll outs s B = .next (v, outs')) :
    ∃ r', offerAll (pre ++ outs) (s.ahead d e r) B = .next (v.ahead d e r', pre ++ outs') := by
  induction B generalizing s outs r with
  | nil => cases hB; exact ⟨r, rfl⟩
  | cons z rest ih =>
    obtain ⟨t, ht, hdone | hnext⟩ := h.sample z
    · cases hB.symm.trans (offerAll_cons_done ht hdone)
      refine ⟨v.rsp, ?_⟩
      rw [offerAll_cons_done (execSample_ahead d e r h.run ht) hdone, List.append_assoc]
      rfl
    · rw [offerAll_cons_ok ht hnext.ok] at hB
      rw [offerAll_cons_ok (execSample_ahead d e r h.run ht) hnext.ok, List.append_assoc]
      exact ih t.rsp hnext hB

/-! ### INVOKE over a batch in two parts -/

/-- The end of an INVOKE whose sample loop ends in s with these outputs (R236). -/
def State.invoked (s : State) (outs : List IQ) : State :=
  { s with phase := .idle }.respond ⟨.ok, .invoked s.consumed s.written outs⟩

/-- A BEGIN between two samples neither stamps an end nor arms a window: it only clears the counts (R226). -/
theorem Awaiting.begun_invoked {u : State} (h : Awaiting u) (outs : List IQ) (now : Word32) :
    (u.invoked outs).begun now = { u with consumed := 0, written := 0, rsp := .plain .ok } := by
  obtain ⟨hEpc, hRn16⟩ := h.inv.withinStep.phase.1 (by simp [h.run])
  have hchk : (u.invoked outs).termChk now = u.invoked outs := if_neg (Bool.eq_false_iff.mp h.checked)
  have harm : (u.invoked outs).gateArm = u.invoked outs := State.gateArm_of_no_request hEpc hRn16
  rw [State.begun, hchk, harm, State.startInvocation, ← h.run]
  rfl

theorem Awaiting.begun_invoked_ahead {u : State} (h : Awaiting u) (outs : List IQ) (now : Word32) (r : Response) :
    ((u.invoked outs).begun now).ahead u.consumed u.written r = u.respond r := by
  rw [h.begun_invoked]
  simp [State.ahead, State.varied, State.respond]

/-- The second INVOKE offers a first part of B, and does with B what the first would have done, had it gone on from its
last sample. -/
theorem Awaiting.offerAll_resumed {u : State} (h : Awaiting u) (B outs : List IQ) (now : Word32) :
    ∃ k v outs' r, offerAll [] ((u.invoked outs).begun now) B = .next (v, outs') ∧
      Offered ((u.invoked outs).begun now) B k v outs' ∧
      offerAll outs u B = .next (v.ahead u.consumed u.written r, outs ++ outs') := by
  have hagain : Awaiting ((u.invoked outs).begun now) :=
    State.begun_awaiting (State.respond_inv (State.end_inv h.inv) _) now
  obtain ⟨k, v, outs', hv, ho⟩ := offerAll_offered B [] hagain.inv hagain.run
  obtain ⟨r, hr⟩ := offerAll_ahead (pre := outs) u.consumed u.written u.rsp hagain hv
  rw [h.begun_invoked_ahead, List.append_nil] at hr
  exact ⟨k, v, outs', r, hv, ho, hr⟩

/-- Settles O47: either the first part ends with DONE, and INVOKE never looks at the second, or the second INVOKE takes
the samples up where the first leaves them. -/
theorem splittingABatchChangesNothing : Obligations.SplittingABatchChangesNothing := by
  intro now now' A B s t c w outs hinv hidle ht hrsp
  have hbegun := State.begun_awaiting hinv now
  obtain ⟨k, u, outs1, hu, ho⟩ := offerAll_offered A [] hbegun.inv hbegun.run
  have hk : u.consumed = k := ho.consumed.trans (Nat.zero_add k)
  have hfirst : exec (.invoke now A) s = .next (u.invoked outs1) := execInvoke_of_offerAll hidle hu ho.busy
  obtain ⟨-, hall⟩ | ⟨hnext, hall⟩ := offerAll_append (B := B) hbegun hu
  · cases ht.symm.trans (execInvoke_of_offerAll hidle hall ho.busy)
    cases hrsp
    exact ⟨fun hlt => absurd (hk ▸ ho.length) hlt.not_ge, fun _ => hfirst⟩
  · have hlen : k = A.length :=
      ho.length.eq_of_not_lt fun hlt => by cases (ho.stops hlt).symm.trans hnext.ok
    obtain ⟨k2, v, outs2, r, hv, hov, hresumed⟩ := hnext.offerAll_resumed B outs1 now'
    have hk2 : v.consumed = k2 := hov.consumed.trans (Nat.zero_add k2)
    have hwhole : exec (.invoke now (A ++ B)) s =
        .next ((v.ahead u.consumed u.written r).invoked (outs1 ++ outs2)) :=
      execInvoke_of_offerAll hidle (hall.trans hresumed) hov.busy
    cases ht.symm.trans hwhole
    cases hrsp
    have hsum : (v.ahead u.consumed u.written r).consumed = k2 + A.length :=
      congrArg₂ (· + ·) hk2 (hk.trans hlen)
    rw [hsum]
    refine ⟨fun _ => ⟨_, _, u.written, v.written, outs1, outs2, hfirst, ?_, execInvoke_of_offerAll rfl hv hov.busy, ?_,
      rfl, Nat.add_comm .., rfl⟩, fun hle => ?_⟩
    · rw [← hlen, ← hk]
      rfl
    · rw [Nat.add_sub_cancel, ← hk2]
      rfl
    · obtain rfl : k2 = 0 := by omega
      obtain rfl : outs2 = [] := List.length_eq_zero_iff.mp (Nat.le_zero.mp hov.outputs_le)
      cases hov.runs
      rw [hnext.begun_invoked_ahead, List.append_nil, hfirst]
      rfl

end Sys2Proof.Machine

/-! Scope: the context registers: a terminated block over a sequence of commands (R267), TERM.CHK (R262), and what the
HOST writes and reads with CTXWR, CTXRD, MSQRD and the two pseudo-instructions (R263, R264, R265, R266). -/

namespace Sys2Proof.Machine

/-! ### A terminated block (R267) -/

/-- The block is terminated in t with the stamp and the notices of s: the events since s are others. -/
structure StaysTerminated (s t : State) : Prop where
  status : t.status = .terminated
  tsEnd : t.tsEnd = s.tsEnd
  evt : ∃ new : List Event, t.evt = s.evt ++ new ∧ ∀ e, Event.evTerminated e ∉ new

theorem StaysTerminated.of_appended {s t : State} {new : List Event} (hs : s.status = .terminated)
    (hstatus : t.status = s.status) (htsEnd : t.tsEnd = s.tsEnd) (hevt : t.evt = s.evt ++ new)
    (hnew : ∀ e, Event.evTerminated e ∉ new) : StaysTerminated s t :=
  ⟨hstatus.trans hs, htsEnd, new, hevt, hnew⟩

theorem StaysTerminated.of_unchanged {s t : State} (hs : s.status = .terminated) (hstatus : t.status = s.status)
    (htsEnd : t.tsEnd = s.tsEnd) (hevt : t.evt = s.evt) : StaysTerminated s t :=
  .of_appended hs hstatus htsEnd (hevt.trans (List.append_nil _).symm) fun _ => List.not_mem_nil

theorem StaysTerminated.respond {s : State} (hs : s.status = .terminated) (r : Response) :
    StaysTerminated s (s.respond r) :=
  .of_unchanged hs rfl rfl rfl

theorem StaysTerminated.trans {s t u : State} (h : StaysTerminated s t) (h' : StaysTerminated t u) :
    StaysTerminated s u := by
  obtain ⟨-, htsEnd, new, hevt, hnew⟩ := h
  obtain ⟨hstatus, htsEnd', new', hevt', hnew'⟩ := h'
  refine ⟨hstatus, htsEnd'.trans htsEnd, new ++ new', ?_, fun e he => ?_⟩
  · rw [hevt', hevt, List.append_assoc]
  · exact (List.mem_append.mp he).elim (hnew e) (hnew' e)

/-- The guard of TERM.CHK: a terminated block is not terminated again (R262). -/
theorem State.termChk_of_terminated {s : State} (now : Word32) (hs : s.status = .terminated) : s.termChk now = s :=
  if_neg fun h => (s.terminates_iff.mp h).2 hs

theorem execBegin_staysTerminated {now : Word32} {s t : State} (hs : s.status = .terminated)
    (ht : execBegin now s = .next t) : StaysTerminated s t := by
  by_cases hidle : s.phase = .idle
  · rw [execBegin_idle now hidle, State.termChk_of_terminated now hs, State.gateArm_eq] at ht
    cases ht
    exact .of_unchanged hs rfl rfl rfl
  · cases ht.symm.trans (execBegin_busy now hidle)
    exact .respond hs _

/-- Path (b) may end with EV_CLOSE (R206). -/
theorem State.openPath_staysTerminated {s : State} (hs : s.status = .terminated) (z : IQ) :
    StaysTerminated s (s.openPath z) := by
  rw [State.openPath_eq]
  by_cases hdone : s.fwdLen.toNat ≤ satInc s.n
  · exact .of_appended hs rfl rfl (if_pos hdone) (by simp)
  · exact .of_unchanged hs rfl rfl (if_neg hdone)

/-- Path (a) may end with EV_OPEN (R180). -/
theorem State.closedPathEnd_staysTerminated {s : State} (hs : s.status = .terminated) (z : IQ) :
    StaysTerminated s (s.closedPathEnd z) := by
  rw [State.closedPathEnd_eq]
  by_cases hdetects : s.detects = true
  · exact .of_appended hs rfl rfl (if_pos hdetects) (by simp)
  · exact .of_unchanged hs rfl rfl (if_neg hdetects)

theorem execSample_staysTerminated {i q : Scalar} {s t : State} (hs : s.status = .terminated)
    (ht : execSample i q s = .next t) : StaysTerminated s t := by
  obtain ⟨-, e⟩ | ⟨-, e⟩ | ⟨-, -, e⟩ | ⟨-, -, e⟩ | ⟨-, -, -, e⟩ | ⟨-, -, a, -, -, e⟩ | ⟨-, -, a, b, -, e⟩ :=
    execSample_cases i q s <;> cases ht.symm.trans e
  · exact .respond hs _
  · exact .respond hs _
  · exact .of_unchanged hs rfl rfl rfl
  · exact { (s.averaged ⟨i, q⟩ a).openPath_staysTerminated hs ⟨i, q⟩ with }
  · have hedge : StaysTerminated s ((s.averaged ⟨i, q⟩ a).estimated ⟨i, q⟩ b).edgeStep := by
      rw [State.edgeStep_eq]
      exact .of_unchanged hs rfl rfl rfl
    exact hedge.trans (State.closedPathEnd_staysTerminated hedge.status _)

theorem execEnd_staysTerminated {s t : State} (hs : s.status = .terminated) (ht : execEnd s = .next t) :
    StaysTerminated s t := by
  by_cases hidle : s.phase = .idle
  · cases ht.symm.trans (execEnd_idle hidle)
    exact .respond hs _
  · cases ht.symm.trans (execEnd_busy hidle)
    exact .of_unchanged hs rfl rfl rfl

theorem statusRequest_eq_some {data : Word32} {st : Status} (h : statusRequest data = some st) :
    (data = 0 ∧ st = .running) ∨ (data = 1 ∧ st = .terminated) := by
  unfold statusRequest at h
  split at h
  · next hd => exact .inl ⟨hd, (Option.some.inj h).symm⟩
  · split at h
    · next hd => exact .inr ⟨hd, (Option.some.inj h).symm⟩
    · cases h

/-- Of the writes of a CTXWR only that of STATUS = RUNNING leaves the terminated STATUS (R263). -/
theorem ctxWrite_staysTerminated {reg : CtxReg} {data : Word32} {s t : State} (hs : s.status = .terminated)
    (hne : reg = .status → data ≠ 0) (ht : ctxWrite reg data s = .next t) : StaysTerminated s t := by
  cases reg with
  | gate =>
    unfold ctxWrite at ht
    cases hg : gateRequest data <;> (rw [hg] at ht; cases ht; exact .of_unchanged hs rfl rfl rfl)
  | status =>
    unfold ctxWrite at ht
    cases hst : statusRequest data with
    | none => rw [hst] at ht; cases ht; exact .respond hs _
    | some st =>
      obtain ⟨-, rfl⟩ := (statusRequest_eq_some hst).resolve_left fun h => hne rfl h.1
      rw [hst] at ht
      cases ht
      exact .of_unchanged hs hs.symm rfl rfl
  | _ => cases ht; exact .of_unchanged hs rfl rfl rfl

theorem execCtxwr_staysTerminated {reg : CtxReg} {data : Word32} {s t : State} (hs : s.status = .terminated)
    (hne : reg = .status → data ≠ 0) (ht : execCtxwr reg data s = .next t) : StaysTerminated s t := by
  by_cases hidle : s.phase = .idle
  · exact ctxWrite_staysTerminated hs hne ((execCtxwr_idle reg data hidle).symm.trans ht)
  · cases ht.symm.trans (execCtxwr_busy reg data hidle)
    exact .respond hs _

/-- A CTXRD only answers, in every PHASE (R264). -/
theorem execCtxrd_eq_respond (reg : CtxReg) (s : State) : ∃ r, execCtxrd reg s = .next (s.respond r) := by
  unfold execCtxrd
  cases s.ctx reg <;> exact ⟨_, rfl⟩

/-- An MSQRD only answers, in every PHASE (R266). -/
theorem execMsqrd_eq_respond (idx : Word32) (s : State) : ∃ r, execMsqrd idx s = .next (s.respond r) := by
  unfold execMsqrd
  cases s.msqRead idx.toNat <;> exact ⟨_, rfl⟩

/-- One command other than RESET and the write of STATUS = RUNNING. -/
theorem exec_staysTerminated {i : Instr} {s t : State} (hi : i.isCommand = true) (hreset : i ≠ .reset)
    (hwrite : i ≠ .ctxwr .status 0) (hs : s.status = .terminated) (ht : exec i s = .next t) :
    StaysTerminated s t := by
  cases i with
  | nop => cases ht; exact .respond hs _
  | beginInv now => exact execBegin_staysTerminated hs ht
  | sample x y => exact execSample_staysTerminated hs ht
  | endInv => exact execEnd_staysTerminated hs ht
  | ctxwr reg data => exact execCtxwr_staysTerminated hs (fun hreg hdata => hwrite (by rw [hreg, hdata])) ht
  | ctxrd reg =>
    obtain ⟨r, e⟩ := execCtxrd_eq_respond reg s
    cases ht.symm.trans e
    exact .respond hs r
  | msqrd idx =>
    obtain ⟨r, e⟩ := execMsqrd_eq_respond idx s
    cases ht.symm.trans e
    exact .respond hs r
  | reset => exact absurd rfl hreset
  | reserved op => cases ht; exact .respond hs _
  | armEpc => exact execCtxwr_staysTerminated (reg := .gate) hs nofun ht
  | armRn16 => exact execCtxwr_staysTerminated (reg := .gate) hs nofun ht
  | _ => exact absurd hi Bool.false_ne_true

theorem runInstrs_cons_eq_next {i : Instr} {rest : List Instr} {s t : State} (ht : runInstrs (i :: rest) s = .next t) :
    ∃ u, exec i s = .next u ∧ runInstrs rest u = .next t := by
  cases he : exec i s with
  | next u => exact ⟨u, rfl, (runInstrs_cons he).symm.trans ht⟩
  | fault f => simp [runInstrs, he] at ht
  | refused r => simp [runInstrs, he] at ht

theorem runInstrs_staysTerminated {is : List Instr} {s t : State}
    (his : ∀ i ∈ is, i.isCommand = true ∧ i ≠ .reset ∧ i ≠ .ctxwr .status 0) (hs : s.status = .terminated)
    (ht : runInstrs is s = .next t) : StaysTerminated s t := by
  induction is generalizing s with
  | nil => cases ht; exact .of_unchanged hs rfl rfl rfl
  | cons i rest ih =>
    obtain ⟨⟨hi, hreset, hwrite⟩, hrest⟩ := List.forall_mem_cons.mp his
    obtain ⟨u, hu, hut⟩ := runInstrs_cons_eq_next ht
    have hstep := exec_staysTerminated hi hreset hwrite hs hu
    exact hstep.trans (ih hrest hstep.status hut)

/-- Settles O53, by induction on the commands: each keeps STATUS, and with it the guard of TERM.CHK is false. -/
theorem terminationHappensOnce : Obligations.TerminationHappensOnce := by
  intro is s t his hs ht
  obtain ⟨hstatus, htsEnd, hevt⟩ := runInstrs_staysTerminated his hs ht
  exact ⟨hstatus, htsEnd, hevt⟩

/-! ### TERM.CHK (R262) -/

/-- Settles O48: `terminates_iff` decides. -/
theorem termChkStampsTheEnd : Obligations.TermChkStampsTheEnd := by
  refine fun now s => ⟨fun hover hrun => ?_, fun hends => ?_⟩
  · have hterm : s.terminates = true := s.terminates_iff.mpr ⟨hover, by simp [hrun]⟩
    exact congrArg Host.Outcome.next (if_pos hterm)
  · have hterm : ¬ s.terminates = true := by
      rw [s.terminates_iff]
      rintro ⟨hover, hrun⟩
      obtain ⟨hnq, hntags⟩ := hends.resolve_right hrun
      omega
    exact congrArg Host.Outcome.next (if_neg hterm)

/-! ### CTXWR and the pseudo-instructions (R263, R265) -/

theorem ctxWrite_gate_of_no_request {data : Word32} (s : State) (hEpc : data ≠ 1) (hRn16 : data ≠ 2) :
    ctxWrite .gate data s = raise .errDenied s := by
  simp only [ctxWrite, gateRequest, if_neg hEpc, if_neg hRn16]

theorem ctxWrite_status_of_no_request {data : Word32} (s : State) (hrunning : data ≠ 0) (hterminated : data ≠ 1) :
    ctxWrite .status data s = raise .errDenied s := by
  simp only [ctxWrite, statusRequest, if_neg hrunning, if_neg hterminated]

/-- Settles O49: the PHASE test comes first, and in IDLE the address and the data decide. -/
theorem ctxwrWritesWhatTheHostMayWrite : Obligations.CtxwrWritesWhatTheHostMayWrite := by
  refine fun data s => ⟨fun hidle => ?_, fun hbusy reg => execCtxwr_busy reg data hbusy⟩
  have hwrite (reg : CtxReg) : exec (.ctxwr reg data) s = ctxWrite reg data s := execCtxwr_idle reg data hidle
  simp only [hwrite]
  refine ⟨?_, ?_, ctxWrite_gate_of_no_request s, ?_, ?_, ctxWrite_status_of_no_request s, rfl, rfl, rfl, ?_, ?_⟩
  · rintro rfl; rfl
  · rintro rfl; rfl
  · rintro rfl; rfl
  · rintro rfl; rfl
  · simp only [List.forall_mem_cons]
    exact ⟨rfl, rfl, rfl, rfl, rfl, rfl, rfl, rfl, nofun⟩
  · simp only [List.forall_mem_cons]
    exact ⟨rfl, rfl, rfl, nofun⟩

/-- Settles O50: both are the CTXWR, whose writes of GATE are the first two of O49. -/
theorem armingIsAWriteOfGate : Obligations.ArmingIsAWriteOfGate := by
  refine fun s => ⟨rfl, rfl, fun hidle => ?_⟩
  obtain ⟨hEpc, -⟩ := (ctxwrWritesWhatTheHostMayWrite 1 s).1 hidle
  obtain ⟨-, hRn16, -⟩ := (ctxwrWritesWhatTheHostMayWrite 2 s).1 hidle
  exact ⟨hEpc rfl, hRn16 rfl⟩

/-! ### CTXRD (R264) -/

theorem exec_ctxrd_of_some {reg : CtxReg} {s : State} {d : Word32} (h : s.ctx reg = some d) :
    exec (.ctxrd reg) s = .next (s.respond ⟨.ok, .data d⟩) := by
  simp only [exec, execCtxrd, h]

theorem exec_ctxrd_of_none {reg : CtxReg} {s : State} (h : s.ctx reg = none) :
    exec (.ctxrd reg) s = .next (s.respond (.plain .errRange)) := by
  simp only [exec, execCtxrd, h, raise]

/-- A length or a count is read through its 32-bit register (R32, R41). -/
theorem exec_ctxrd_of_regWord {reg : CtxReg} {s : State} {n : Nat} (h : s.ctx reg = some (regWord n)) :
    ∃ d : Word32, exec (.ctxrd reg) s = .next { s with rsp := ⟨.ok, .data d⟩ } ∧
      (n < 2 ^ 32 → d = BitVec.ofNat 32 n) :=
  ⟨regWord n, exec_ctxrd_of_some h, regWord_of_lt⟩

/-- Settles O51, address by address. -/
theorem ctxrdReturnsTheRegister : Obligations.CtxrdReturnsTheRegister := by
  intro s
  simp only [List.forall_mem_cons]
  refine ⟨⟨exec_ctxrd_of_some ?_, exec_ctxrd_of_some rfl, exec_ctxrd_of_some ?_, exec_ctxrd_of_some rfl,
      exec_ctxrd_of_some rfl, exec_ctxrd_of_some rfl, exec_ctxrd_of_some rfl, nofun⟩,
    ⟨exec_ctxrd_of_regWord rfl, exec_ctxrd_of_regWord rfl, exec_ctxrd_of_regWord rfl, exec_ctxrd_of_regWord rfl,
      exec_ctxrd_of_regWord rfl, exec_ctxrd_of_regWord rfl, nofun⟩,
    ⟨exec_ctxrd_of_none rfl, exec_ctxrd_of_none rfl, exec_ctxrd_of_none rfl, nofun⟩⟩
  · rw [State.ctx]
    cases s.gate <;> rfl
  · rw [State.ctx]
    cases s.status <;> rfl

/-! ### MSQRD (R266) -/

/-- Settles O52: MsqRead finds an element exactly below MSQ_LEN. -/
theorem msqrdReturnsTheElement : Obligations.MsqrdReturnsTheElement := by
  refine fun idx s => ⟨fun hlt => ?_, fun hle => ?_⟩
  · have hread : s.msqRead idx.toNat = some s.msq[idx.toNat] := List.getElem?_eq_getElem hlt
    simp only [exec, execMsqrd, hread]
    rfl
  · have hread : s.msqRead idx.toNat = none := List.getElem?_eq_none hle
    simp only [exec, execMsqrd, hread]
    rfl

end Sys2Proof.Machine

/-! Scope: the reserved opcodes (R292), and RESET (R320) as the same state as construction (R321). -/

namespace Sys2Proof.Machine

/-- Settles O7: the op alone makes a port word a reserved command. -/
theorem reservedOpcodeAnswersErrIllegal : Obligations.ReservedOpcodeAnswersErrIllegal :=
  ⟨rfl, fun _ _ hlt hop => (decode_of_lt hlt).trans (congrArg _ (readCommand_reserved hop)), fun _ _ => rfl⟩

/-! ### RESET (R320, R321) -/

/-- RESET is construction with the configuration in place, while the HOST's words wait on (R321, assumption 2). -/
theorem exec_reset (s : State) : exec .reset s = .next { State.constructed s.cfg with cmds := s.cmds } := rfl

/-- Settles O9: the values R320 lists are those of the constructed state. -/
theorem resetRestoresEveryRegister : Obligations.ResetRestoresEveryRegister := fun s => ⟨_, exec_reset s, rfl⟩

/-- Settles O10: both are the constructed state of one configuration, with the same words waiting. -/
theorem constructionEqualsReset : Obligations.ConstructionEqualsReset := by
  intro p s t u hconstruct hcfg hcmds
  obtain ⟨c, -, rfl⟩ := execConstruct_next hconstruct
  have hc : u.cfg = c := hcfg
  rw [exec_reset, hc, hcmds]

end Sys2Proof.Machine
